-- ==== Sys2Proof/Word.lean ====
section
/-! DEFINITION. The word types of the machine (R21, R60) and the two data widths (R9). -/

namespace Sys2Proof

/-- A byte (R60). -/
abbrev Byte := BitVec 8

/-- A 16-bit register or bank offset (R21). -/
abbrev Word := BitVec 16

/-- A 24-bit CPU address: bank, then offset (R7, R60). -/
abbrev Addr := BitVec 24

/-- The width of a data access: `w = 1` or `w = 2` bytes (R9, R71). -/
inductive Width where
  | byte
  | word
  deriving DecidableEq, Repr

/-- `w`, the byte count (R9). -/
def Width.bytes : Width → Nat
  | .byte => 1
  | .word => 2

/-- `8w`, the bit count (R161). -/
def Width.bits : Width → Nat
  | .byte => 8
  | .word => 16

end Sys2Proof
end

