-- ==== Sys2Proof/Config.lean ====
section
/-! DEFINITION. The implementation parameters of R6: those that change behaviour are the fields of `Config`,
those that are OPEN, and the free values, are constants without a body. -/

namespace Sys2Proof

/-- `DECIMAL_MODE` (R6, D11): what `ADC` and `SBC` do when `P.D = 1`. -/
inductive DecimalMode where
  | bcd
  | binary
  | refuse
  deriving DecidableEq, Repr

/-- The parameters of R6 on which a rule depends; a run never changes them (log entry 6). -/
structure Config where
  /-- `INDEX_CARRIES_INTO_BANK` (R125). -/
  indexCarriesIntoBank : Bool
  /-- `DECIMAL_MODE` (R162). -/
  decimalMode : DecimalMode
  /-- The opcode bytes outside the set K of known opcodes (R96). -/
  unknownOpcodes : List Byte
  /-- `HAS_EXT_INTERRUPTS` (R6, D14): false ties the inputs `irq` and `nmi` inactive. -/
  hasExtInterrupts : Bool
  /-- `RING_SIZE` (R420). -/
  ringSize : Nat
  /-- `FRAME_SAMPLES` (R421). -/
  frameSamples : Nat
  /-- `STEPS_PER_SAMPLE` (R416). -/
  stepsPerSample : Nat
  /-- `APU_RESET_PC` (R364). -/
  apuResetPc : Word
  deriving DecidableEq, Repr

/-- `RING_SIZE >= 2 * FRAME_SAMPLES`, what R421 asks of the ring's geometry. -/
def Config.ringFits (cfg : Config) : Bool := 2 * cfg.frameSamples ≤ cfg.ringSize

/-- The opcode is in the set K (R6, R96). -/
def Config.knows (cfg : Config) (op : Byte) : Bool := !(cfg.unknownOpcodes.contains op)

/-- `RING_SIZE`, OPEN (R6, D25). UNVERIFIED: no value is given (log entry 7). -/
opaque Config.openRingSize : Nat

/-- `FRAME_SAMPLES`, OPEN (R6, D25; log entry 7). -/
opaque Config.openFrameSamples : Nat

/-- `STEPS_PER_SAMPLE`, OPEN (R6, D25; log entry 7). -/
opaque Config.openStepsPerSample : Nat

/-- `APU_RESET_PC`, OPEN (R364, D20; log entry 7). -/
opaque Config.openApuResetPc : Word

/-- `CPU_FREQ`, OPEN; no rule depends on it (R6, D27). -/
opaque Config.cpuFreq : Nat

/-- `VIDEO_FREQ`, OPEN; no rule depends on it (R6, D27). -/
opaque Config.videoFreq : Nat

/-- `APU_FREQ`, OPEN; no rule depends on it (R6, D27). -/
opaque Config.apuFreq : Nat

/-- `NATIVE_RATE` in samples per second; no rule depends on it (R6, D26). -/
def Config.nativeRate : Nat := 32040

/-- The default configuration of R6. -/
def Config.default : Config :=
  { indexCarriesIntoBank := false
    decimalMode := .bcd
    unknownOpcodes := [0x42]
    hasExtInterrupts := true
    ringSize := Config.openRingSize
    frameSamples := Config.openFrameSamples
    stepsPerSample := Config.openStepsPerSample
    apuResetPc := Config.openApuResetPc }

/-- The value of `P.V` after the `k`-th decimal `ADC` or `SBC`: free (R162, U4; log entry 10). -/
opaque Config.freeDecimalOverflow : Nat → Bool

/-- The carry out of the `k`-th decimal `ADC` or `SBC` on an operand with a digit above 9: free (R162, U4;
log entry 10). -/
opaque Config.freeDecimalCarry : Nat → Bool

/-- The result of the `k`-th decimal `ADC` or `SBC` on an operand with a digit above 9: free (R162, U4;
log entry 10). -/
opaque Config.freeDecimalResult : Nat → Word

/-- The APU registers that `Spc700Exec` may read and write (R33, R365 item 2). -/
structure ApuRegs where
  pc : Word
  a : Byte
  x : Byte
  y : Byte
  sp : Byte
  psw : Byte
  deriving DecidableEq, Repr

/-- What one SPC700 instruction does after its opcode byte has been fetched: it reads and writes memory through
`ApuRead` and `ApuWrite` only, and ends with new register values (R365 items 1 and 2). -/
inductive Spc700Action where
  | done (regs : ApuRegs)
  | read (a : Word) (next : Byte → Spc700Action)
  | write (a : Word) (v : Byte) (next : Spc700Action)

/-- `Spc700Exec`, OPEN (R365, D20; log entry 8): for an opcode byte and the registers with `pc` past that byte,
what the instruction does; none for an opcode it does not know (R365 item 3). -/
opaque Config.spc700Exec : Byte → ApuRegs → Option Spc700Action

/-- How much `Period(k)` exceeds `Period(k + 1)`: OPEN (R413, D24; log entry 9). -/
opaque Config.envelopePeriodDrop : Nat → Nat

/-- The offset within its period of the envelope rate `r`: OPEN (R413, D24; log entry 9). -/
opaque Config.envelopeOffset : Nat → Nat

/-- `Period(31 - k)`: one at `k = 0`, and never less for a lower rate (R413). -/
def Config.envelopePeriodBelow : Nat → Nat
  | 0 => 1
  | k + 1 => Config.envelopePeriodBelow k + Config.envelopePeriodDrop (30 - k)

/-- `Period(r)` of an envelope rate `r` in 1..31 (R413). -/
def Config.envelopePeriod (r : Nat) : Nat := Config.envelopePeriodBelow (31 - r)

/-- `Due(r)` at output sample number `n`, that is `EnvelopeRate(r, n)`: never for rate 0, at every sample for rate
31, once every `Period(r)` samples between (R413). -/
def Config.envelopeDue (r n : Nat) : Bool :=
  r != 0 && (n + Config.envelopeOffset r) % Config.envelopePeriod r == 0

end Sys2Proof
end

