-- ==== Sys2Proof/Syntax.lean ====
section
/-! DEFINITION. The instruction syntax: one constructor per row of the opcode table (R95, `30_encoding.md`),
with the operand forms of R91. The constructor's name is the mnemonic followed by its addressing form. -/

namespace Sys2Proof

/-- The eight flags of the status byte `P` (R27). -/
inductive Flag where
  | n | v | m | x | d | i | z | c
  deriving DecidableEq, Repr

/-- An immediate of the formats `IMM_M` and `IMM_X`: one byte or two bytes (R91, R93). -/
inductive Immediate where
  | byte (v : Byte)
  | word (v : Word)
  deriving DecidableEq, Repr

/-- The data addressing modes that return an effective address (R122 to R137). -/
inductive AddrMode where
  /-- `a` (R122) -/
  | abs (a : Word)
  /-- `a,X` (R123) -/
  | absX (a : Word)
  /-- `a,Y` (R124) -/
  | absY (a : Word)
  /-- `al` (R126) -/
  | long (al : Addr)
  /-- `al,X` (R127) -/
  | longX (al : Addr)
  /-- `d` (R128) -/
  | dp (d : Byte)
  /-- `d,X` (R129) -/
  | dpX (d : Byte)
  /-- `d,Y` (R130) -/
  | dpY (d : Byte)
  /-- `(d)` (R131) -/
  | dpInd (d : Byte)
  /-- `(d,X)` (R132) -/
  | dpIndX (d : Byte)
  /-- `(d),Y` (R133) -/
  | dpIndY (d : Byte)
  /-- `[d]` (R134) -/
  | dpIndLong (d : Byte)
  /-- `[d],Y` (R135) -/
  | dpIndLongY (d : Byte)
  /-- `d,S` (R136) -/
  | sr (d : Byte)
  /-- `(d,S),Y` (R137) -/
  | srIndY (d : Byte)
  deriving DecidableEq, Repr

/-- What `Operand(w)` reads (R160): an immediate, or memory at an effective address. -/
inductive DataOperand where
  | imm (v : Immediate)
  | mem (mode : AddrMode)
  deriving DecidableEq, Repr

/-- What `Modify` reads and writes (R190): the accumulator, or memory at an effective address. -/
inductive RmwTarget where
  | acc
  | mem (mode : AddrMode)
  deriving DecidableEq, Repr

/-- An instruction: one constructor per opcode byte, 256 in all (R95); the rows with operand
bytes first, then the rows without, each in the table's order. -/
inductive Instr where
  /-- `$00` BRK #8 (R238, R121) -/
  | brk (imm : Byte)
  /-- `$01` ORA (d,X) (R166, R132) -/
  | oraDpIndX (d : Byte)
  /-- `$02` COP #8 (R239, R121) -/
  | cop (imm : Byte)
  /-- `$03` ORA d,S (R166, R136) -/
  | oraSr (d : Byte)
  /-- `$04` TSB d (R201, R128) -/
  | tsbDp (d : Byte)
  /-- `$05` ORA d (R166, R128) -/
  | oraDp (d : Byte)
  /-- `$06` ASL d (R191, R128) -/
  | aslDp (d : Byte)
  /-- `$07` ORA [d] (R166, R134) -/
  | oraDpIndLong (d : Byte)
  /-- `$09` ORA #m (R166, R121) -/
  | oraImm (imm : Immediate)
  /-- `$0C` TSB a (R201, R122) -/
  | tsbAbs (a : Word)
  /-- `$0D` ORA a (R166, R122) -/
  | oraAbs (a : Word)
  /-- `$0E` ASL a (R191, R122) -/
  | aslAbs (a : Word)
  /-- `$0F` ORA al (R166, R126) -/
  | oraLong (al : Addr)
  /-- `$10` BPL r (R226, R140) -/
  | bpl (rel : Byte)
  /-- `$11` ORA (d),Y (R166, R133) -/
  | oraDpIndY (d : Byte)
  /-- `$12` ORA (d) (R166, R131) -/
  | oraDpInd (d : Byte)
  /-- `$13` ORA (d,S),Y (R166, R137) -/
  | oraSrIndY (d : Byte)
  /-- `$14` TRB d (R202, R128) -/
  | trbDp (d : Byte)
  /-- `$15` ORA d,X (R166, R129) -/
  | oraDpX (d : Byte)
  /-- `$16` ASL d,X (R191, R129) -/
  | aslDpX (d : Byte)
  /-- `$17` ORA [d],Y (R166, R135) -/
  | oraDpIndLongY (d : Byte)
  /-- `$19` ORA a,Y (R166, R124) -/
  | oraAbsY (a : Word)
  /-- `$1C` TRB a (R202, R122) -/
  | trbAbs (a : Word)
  /-- `$1D` ORA a,X (R166, R123) -/
  | oraAbsX (a : Word)
  /-- `$1E` ASL a,X (R191, R123) -/
  | aslAbsX (a : Word)
  /-- `$1F` ORA al,X (R166, R127) -/
  | oraLongX (al : Addr)
  /-- `$20` JSR a (R233, R142) -/
  | jsrAbs (a : Word)
  /-- `$21` AND (d,X) (R165, R132) -/
  | andDpIndX (d : Byte)
  /-- `$22` JSL al (R234, R146) -/
  | jsl (al : Addr)
  /-- `$23` AND d,S (R165, R136) -/
  | andSr (d : Byte)
  /-- `$24` BIT d (R172, R128) -/
  | bitDp (d : Byte)
  /-- `$25` AND d (R165, R128) -/
  | andDp (d : Byte)
  /-- `$26` ROL d (R193, R128) -/
  | rolDp (d : Byte)
  /-- `$27` AND [d] (R165, R134) -/
  | andDpIndLong (d : Byte)
  /-- `$29` AND #m (R165, R121) -/
  | andImm (imm : Immediate)
  /-- `$2C` BIT a (R172, R122) -/
  | bitAbs (a : Word)
  /-- `$2D` AND a (R165, R122) -/
  | andAbs (a : Word)
  /-- `$2E` ROL a (R193, R122) -/
  | rolAbs (a : Word)
  /-- `$2F` AND al (R165, R126) -/
  | andLong (al : Addr)
  /-- `$30` BMI r (R225, R140) -/
  | bmi (rel : Byte)
  /-- `$31` AND (d),Y (R165, R133) -/
  | andDpIndY (d : Byte)
  /-- `$32` AND (d) (R165, R131) -/
  | andDpInd (d : Byte)
  /-- `$33` AND (d,S),Y (R165, R137) -/
  | andSrIndY (d : Byte)
  /-- `$34` BIT d,X (R172, R129) -/
  | bitDpX (d : Byte)
  /-- `$35` AND d,X (R165, R129) -/
  | andDpX (d : Byte)
  /-- `$36` ROL d,X (R193, R129) -/
  | rolDpX (d : Byte)
  /-- `$37` AND [d],Y (R165, R135) -/
  | andDpIndLongY (d : Byte)
  /-- `$39` AND a,Y (R165, R124) -/
  | andAbsY (a : Word)
  /-- `$3C` BIT a,X (R172, R123) -/
  | bitAbsX (a : Word)
  /-- `$3D` AND a,X (R165, R123) -/
  | andAbsX (a : Word)
  /-- `$3E` ROL a,X (R193, R123) -/
  | rolAbsX (a : Word)
  /-- `$3F` AND al,X (R165, R127) -/
  | andLongX (al : Addr)
  /-- `$41` EOR (d,X) (R167, R132) -/
  | eorDpIndX (d : Byte)
  /-- `$42` WDM rsvd (R347, R139) -/
  | wdm (operand : Option Byte)
  /-- `$43` EOR d,S (R167, R136) -/
  | eorSr (d : Byte)
  /-- `$44` MVP xyc (R353, R147) -/
  | mvp (dst : Byte) (src : Byte)
  /-- `$45` EOR d (R167, R128) -/
  | eorDp (d : Byte)
  /-- `$46` LSR d (R192, R128) -/
  | lsrDp (d : Byte)
  /-- `$47` EOR [d] (R167, R134) -/
  | eorDpIndLong (d : Byte)
  /-- `$49` EOR #m (R167, R121) -/
  | eorImm (imm : Immediate)
  /-- `$4C` JMP a (R231, R142) -/
  | jmpAbs (a : Word)
  /-- `$4D` EOR a (R167, R122) -/
  | eorAbs (a : Word)
  /-- `$4E` LSR a (R192, R122) -/
  | lsrAbs (a : Word)
  /-- `$4F` EOR al (R167, R126) -/
  | eorLong (al : Addr)
  /-- `$50` BVC r (R227, R140) -/
  | bvc (rel : Byte)
  /-- `$51` EOR (d),Y (R167, R133) -/
  | eorDpIndY (d : Byte)
  /-- `$52` EOR (d) (R167, R131) -/
  | eorDpInd (d : Byte)
  /-- `$53` EOR (d,S),Y (R167, R137) -/
  | eorSrIndY (d : Byte)
  /-- `$54` MVN xyc (R352, R147) -/
  | mvn (dst : Byte) (src : Byte)
  /-- `$55` EOR d,X (R167, R129) -/
  | eorDpX (d : Byte)
  /-- `$56` LSR d,X (R192, R129) -/
  | lsrDpX (d : Byte)
  /-- `$57` EOR [d],Y (R167, R135) -/
  | eorDpIndLongY (d : Byte)
  /-- `$59` EOR a,Y (R167, R124) -/
  | eorAbsY (a : Word)
  /-- `$5C` JML al (R232, R146) -/
  | jmlLong (al : Addr)
  /-- `$5D` EOR a,X (R167, R123) -/
  | eorAbsX (a : Word)
  /-- `$5E` LSR a,X (R192, R123) -/
  | lsrAbsX (a : Word)
  /-- `$5F` EOR al,X (R167, R127) -/
  | eorLongX (al : Addr)
  /-- `$61` ADC (d,X) (R163, R132) -/
  | adcDpIndX (d : Byte)
  /-- `$62` PER rl (R279, R141) -/
  | per (rel : Word)
  /-- `$63` ADC d,S (R163, R136) -/
  | adcSr (d : Byte)
  /-- `$64` STZ d (R296, R128) -/
  | stzDp (d : Byte)
  /-- `$65` ADC d (R163, R128) -/
  | adcDp (d : Byte)
  /-- `$66` ROR d (R194, R128) -/
  | rorDp (d : Byte)
  /-- `$67` ADC [d] (R163, R134) -/
  | adcDpIndLong (d : Byte)
  /-- `$69` ADC #m (R163, R121) -/
  | adcImm (imm : Immediate)
  /-- `$6C` JMP (a) (R231, R143) -/
  | jmpInd (a : Word)
  /-- `$6D` ADC a (R163, R122) -/
  | adcAbs (a : Word)
  /-- `$6E` ROR a (R194, R122) -/
  | rorAbs (a : Word)
  /-- `$6F` ADC al (R163, R126) -/
  | adcLong (al : Addr)
  /-- `$70` BVS r (R228, R140) -/
  | bvs (rel : Byte)
  /-- `$71` ADC (d),Y (R163, R133) -/
  | adcDpIndY (d : Byte)
  /-- `$72` ADC (d) (R163, R131) -/
  | adcDpInd (d : Byte)
  /-- `$73` ADC (d,S),Y (R163, R137) -/
  | adcSrIndY (d : Byte)
  /-- `$74` STZ d,X (R296, R129) -/
  | stzDpX (d : Byte)
  /-- `$75` ADC d,X (R163, R129) -/
  | adcDpX (d : Byte)
  /-- `$76` ROR d,X (R194, R129) -/
  | rorDpX (d : Byte)
  /-- `$77` ADC [d],Y (R163, R135) -/
  | adcDpIndLongY (d : Byte)
  /-- `$79` ADC a,Y (R163, R124) -/
  | adcAbsY (a : Word)
  /-- `$7C` JMP (a,X) (R231, R144) -/
  | jmpIndX (a : Word)
  /-- `$7D` ADC a,X (R163, R123) -/
  | adcAbsX (a : Word)
  /-- `$7E` ROR a,X (R194, R123) -/
  | rorAbsX (a : Word)
  /-- `$7F` ADC al,X (R163, R127) -/
  | adcLongX (al : Addr)
  /-- `$80` BRA r (R229, R140) -/
  | bra (rel : Byte)
  /-- `$81` STA (d,X) (R293, R132) -/
  | staDpIndX (d : Byte)
  /-- `$82` BRL rl (R230, R141) -/
  | brl (rel : Word)
  /-- `$83` STA d,S (R293, R136) -/
  | staSr (d : Byte)
  /-- `$84` STY d (R295, R128) -/
  | styDp (d : Byte)
  /-- `$85` STA d (R293, R128) -/
  | staDp (d : Byte)
  /-- `$86` STX d (R294, R128) -/
  | stxDp (d : Byte)
  /-- `$87` STA [d] (R293, R134) -/
  | staDpIndLong (d : Byte)
  /-- `$89` BIT #m (R172, R121) -/
  | bitImm (imm : Immediate)
  /-- `$8C` STY a (R295, R122) -/
  | styAbs (a : Word)
  /-- `$8D` STA a (R293, R122) -/
  | staAbs (a : Word)
  /-- `$8E` STX a (R294, R122) -/
  | stxAbs (a : Word)
  /-- `$8F` STA al (R293, R126) -/
  | staLong (al : Addr)
  /-- `$90` BCC r (R221, R140) -/
  | bcc (rel : Byte)
  /-- `$91` STA (d),Y (R293, R133) -/
  | staDpIndY (d : Byte)
  /-- `$92` STA (d) (R293, R131) -/
  | staDpInd (d : Byte)
  /-- `$93` STA (d,S),Y (R293, R137) -/
  | staSrIndY (d : Byte)
  /-- `$94` STY d,X (R295, R129) -/
  | styDpX (d : Byte)
  /-- `$95` STA d,X (R293, R129) -/
  | staDpX (d : Byte)
  /-- `$96` STX d,Y (R294, R130) -/
  | stxDpY (d : Byte)
  /-- `$97` STA [d],Y (R293, R135) -/
  | staDpIndLongY (d : Byte)
  /-- `$99` STA a,Y (R293, R124) -/
  | staAbsY (a : Word)
  /-- `$9C` STZ a (R296, R122) -/
  | stzAbs (a : Word)
  /-- `$9D` STA a,X (R293, R123) -/
  | staAbsX (a : Word)
  /-- `$9E` STZ a,X (R296, R123) -/
  | stzAbsX (a : Word)
  /-- `$9F` STA al,X (R293, R127) -/
  | staLongX (al : Addr)
  /-- `$A0` LDY #x (R292, R121) -/
  | ldyImm (imm : Immediate)
  /-- `$A1` LDA (d,X) (R290, R132) -/
  | ldaDpIndX (d : Byte)
  /-- `$A2` LDX #x (R291, R121) -/
  | ldxImm (imm : Immediate)
  /-- `$A3` LDA d,S (R290, R136) -/
  | ldaSr (d : Byte)
  /-- `$A4` LDY d (R292, R128) -/
  | ldyDp (d : Byte)
  /-- `$A5` LDA d (R290, R128) -/
  | ldaDp (d : Byte)
  /-- `$A6` LDX d (R291, R128) -/
  | ldxDp (d : Byte)
  /-- `$A7` LDA [d] (R290, R134) -/
  | ldaDpIndLong (d : Byte)
  /-- `$A9` LDA #m (R290, R121) -/
  | ldaImm (imm : Immediate)
  /-- `$AC` LDY a (R292, R122) -/
  | ldyAbs (a : Word)
  /-- `$AD` LDA a (R290, R122) -/
  | ldaAbs (a : Word)
  /-- `$AE` LDX a (R291, R122) -/
  | ldxAbs (a : Word)
  /-- `$AF` LDA al (R290, R126) -/
  | ldaLong (al : Addr)
  /-- `$B0` BCS r (R222, R140) -/
  | bcs (rel : Byte)
  /-- `$B1` LDA (d),Y (R290, R133) -/
  | ldaDpIndY (d : Byte)
  /-- `$B2` LDA (d) (R290, R131) -/
  | ldaDpInd (d : Byte)
  /-- `$B3` LDA (d,S),Y (R290, R137) -/
  | ldaSrIndY (d : Byte)
  /-- `$B4` LDY d,X (R292, R129) -/
  | ldyDpX (d : Byte)
  /-- `$B5` LDA d,X (R290, R129) -/
  | ldaDpX (d : Byte)
  /-- `$B6` LDX d,Y (R291, R130) -/
  | ldxDpY (d : Byte)
  /-- `$B7` LDA [d],Y (R290, R135) -/
  | ldaDpIndLongY (d : Byte)
  /-- `$B9` LDA a,Y (R290, R124) -/
  | ldaAbsY (a : Word)
  /-- `$BC` LDY a,X (R292, R123) -/
  | ldyAbsX (a : Word)
  /-- `$BD` LDA a,X (R290, R123) -/
  | ldaAbsX (a : Word)
  /-- `$BE` LDX a,Y (R291, R124) -/
  | ldxAbsY (a : Word)
  /-- `$BF` LDA al,X (R290, R127) -/
  | ldaLongX (al : Addr)
  /-- `$C0` CPY #x (R171, R121) -/
  | cpyImm (imm : Immediate)
  /-- `$C1` CMP (d,X) (R169, R132) -/
  | cmpDpIndX (d : Byte)
  /-- `$C2` REP #8 (R337, R121) -/
  | rep (imm : Byte)
  /-- `$C3` CMP d,S (R169, R136) -/
  | cmpSr (d : Byte)
  /-- `$C4` CPY d (R171, R128) -/
  | cpyDp (d : Byte)
  /-- `$C5` CMP d (R169, R128) -/
  | cmpDp (d : Byte)
  /-- `$C6` DEC d (R196, R128) -/
  | decDp (d : Byte)
  /-- `$C7` CMP [d] (R169, R134) -/
  | cmpDpIndLong (d : Byte)
  /-- `$C9` CMP #m (R169, R121) -/
  | cmpImm (imm : Immediate)
  /-- `$CC` CPY a (R171, R122) -/
  | cpyAbs (a : Word)
  /-- `$CD` CMP a (R169, R122) -/
  | cmpAbs (a : Word)
  /-- `$CE` DEC a (R196, R122) -/
  | decAbs (a : Word)
  /-- `$CF` CMP al (R169, R126) -/
  | cmpLong (al : Addr)
  /-- `$D0` BNE r (R224, R140) -/
  | bne (rel : Byte)
  /-- `$D1` CMP (d),Y (R169, R133) -/
  | cmpDpIndY (d : Byte)
  /-- `$D2` CMP (d) (R169, R131) -/
  | cmpDpInd (d : Byte)
  /-- `$D3` CMP (d,S),Y (R169, R137) -/
  | cmpSrIndY (d : Byte)
  /-- `$D4` PEI (d) (R278, R131) -/
  | pei (d : Byte)
  /-- `$D5` CMP d,X (R169, R129) -/
  | cmpDpX (d : Byte)
  /-- `$D6` DEC d,X (R196, R129) -/
  | decDpX (d : Byte)
  /-- `$D7` CMP [d],Y (R169, R135) -/
  | cmpDpIndLongY (d : Byte)
  /-- `$D9` CMP a,Y (R169, R124) -/
  | cmpAbsY (a : Word)
  /-- `$DC` JML [a] (R232, R145) -/
  | jmlIndLong (a : Word)
  /-- `$DD` CMP a,X (R169, R123) -/
  | cmpAbsX (a : Word)
  /-- `$DE` DEC a,X (R196, R123) -/
  | decAbsX (a : Word)
  /-- `$DF` CMP al,X (R169, R127) -/
  | cmpLongX (al : Addr)
  /-- `$E0` CPX #x (R170, R121) -/
  | cpxImm (imm : Immediate)
  /-- `$E1` SBC (d,X) (R164, R132) -/
  | sbcDpIndX (d : Byte)
  /-- `$E2` SEP #8 (R338, R121) -/
  | sep (imm : Byte)
  /-- `$E3` SBC d,S (R164, R136) -/
  | sbcSr (d : Byte)
  /-- `$E4` CPX d (R170, R128) -/
  | cpxDp (d : Byte)
  /-- `$E5` SBC d (R164, R128) -/
  | sbcDp (d : Byte)
  /-- `$E6` INC d (R195, R128) -/
  | incDp (d : Byte)
  /-- `$E7` SBC [d] (R164, R134) -/
  | sbcDpIndLong (d : Byte)
  /-- `$E9` SBC #m (R164, R121) -/
  | sbcImm (imm : Immediate)
  /-- `$EC` CPX a (R170, R122) -/
  | cpxAbs (a : Word)
  /-- `$ED` SBC a (R164, R122) -/
  | sbcAbs (a : Word)
  /-- `$EE` INC a (R195, R122) -/
  | incAbs (a : Word)
  /-- `$EF` SBC al (R164, R126) -/
  | sbcLong (al : Addr)
  /-- `$F0` BEQ r (R223, R140) -/
  | beq (rel : Byte)
  /-- `$F1` SBC (d),Y (R164, R133) -/
  | sbcDpIndY (d : Byte)
  /-- `$F2` SBC (d) (R164, R131) -/
  | sbcDpInd (d : Byte)
  /-- `$F3` SBC (d,S),Y (R164, R137) -/
  | sbcSrIndY (d : Byte)
  /-- `$F4` PEA #16 (R277, R121) -/
  | pea (imm : Word)
  /-- `$F5` SBC d,X (R164, R129) -/
  | sbcDpX (d : Byte)
  /-- `$F6` INC d,X (R195, R129) -/
  | incDpX (d : Byte)
  /-- `$F7` SBC [d],Y (R164, R135) -/
  | sbcDpIndLongY (d : Byte)
  /-- `$F9` SBC a,Y (R164, R124) -/
  | sbcAbsY (a : Word)
  /-- `$FC` JSR (a,X) (R233, R144) -/
  | jsrIndX (a : Word)
  /-- `$FD` SBC a,X (R164, R123) -/
  | sbcAbsX (a : Word)
  /-- `$FE` INC a,X (R195, R123) -/
  | incAbsX (a : Word)
  /-- `$FF` SBC al,X (R164, R127) -/
  | sbcLongX (al : Addr)
  /-- `$08` PHP (R270, R139) -/
  | php
  /-- `$0A` ASL A (R191, R138) -/
  | aslAcc
  /-- `$0B` PHD (R268, R139) -/
  | phd
  /-- `$18` CLC (R330, R139) -/
  | clc
  /-- `$1A` INC A (R195, R138) -/
  | incAcc
  /-- `$1B` TCS (R307, R139) -/
  | tcs
  /-- `$28` PLP (R276, R139) -/
  | plp
  /-- `$2A` ROL A (R193, R138) -/
  | rolAcc
  /-- `$2B` PLD (R275, R139) -/
  | pld
  /-- `$38` SEC (R331, R139) -/
  | sec
  /-- `$3A` DEC A (R196, R138) -/
  | decAcc
  /-- `$3B` TSC (R308, R139) -/
  | tsc
  /-- `$40` RTI (R237, R139) -/
  | rti
  /-- `$48` PHA (R264, R139) -/
  | pha
  /-- `$4A` LSR A (R192, R138) -/
  | lsrAcc
  /-- `$4B` PHK (R269, R139) -/
  | phk
  /-- `$58` CLI (R332, R139) -/
  | cli
  /-- `$5A` PHY (R266, R139) -/
  | phy
  /-- `$5B` TCD (R305, R139) -/
  | tcd
  /-- `$60` RTS (R235, R139) -/
  | rts
  /-- `$68` PLA (R271, R139) -/
  | pla
  /-- `$6A` ROR A (R194, R138) -/
  | rorAcc
  /-- `$6B` RTL (R236, R139) -/
  | rtl
  /-- `$78` SEI (R333, R139) -/
  | sei
  /-- `$7A` PLY (R273, R139) -/
  | ply
  /-- `$7B` TDC (R306, R139) -/
  | tdc
  /-- `$88` DEY (R200, R139) -/
  | dey
  /-- `$8A` TXA (R299, R139) -/
  | txa
  /-- `$8B` PHB (R267, R139) -/
  | phb
  /-- `$98` TYA (R300, R139) -/
  | tya
  /-- `$9A` TXS (R304, R139) -/
  | txs
  /-- `$9B` TXY (R301, R139) -/
  | txy
  /-- `$A8` TAY (R298, R139) -/
  | tay
  /-- `$AA` TAX (R297, R139) -/
  | tax
  /-- `$AB` PLB (R274, R139) -/
  | plb
  /-- `$B8` CLV (R336, R139) -/
  | clv
  /-- `$BA` TSX (R303, R139) -/
  | tsx
  /-- `$BB` TYX (R302, R139) -/
  | tyx
  /-- `$C8` INY (R198, R139) -/
  | iny
  /-- `$CA` DEX (R199, R139) -/
  | dex
  /-- `$CB` WAI (R348, R139) -/
  | wai
  /-- `$D8` CLD (R334, R139) -/
  | cld
  /-- `$DA` PHX (R265, R139) -/
  | phx
  /-- `$DB` STP (R349, R139) -/
  | stp
  /-- `$E8` INX (R197, R139) -/
  | inx
  /-- `$EA` NOP (R346, R139) -/
  | nop
  /-- `$EB` XBA (R309, R139) -/
  | xba
  /-- `$F8` SED (R335, R139) -/
  | sed
  /-- `$FA` PLX (R272, R139) -/
  | plx
  /-- `$FB` XCE (R345, R139) -/
  | xce
  deriving DecidableEq, Repr

/-- What, besides the bytes, the decoding of an instruction depends on: the width predicates `m8` and `x8` (R93)
and whether `$42` is in the set K of known opcodes (R96, R347). -/
structure DecodeContext where
  m8 : Bool
  x8 : Bool
  wdmKnown : Bool
  deriving DecidableEq, Repr

/-- The instructions that read one operand with `Operand(w)` (R160): the families of R163 to R172 and R290 to R292. -/
inductive DataOp where
  | adc | sbc | and | ora | eor | cmp | cpx | cpy | bit | lda | ldx | ldy
  deriving DecidableEq, Repr

/-- The stores (R293 to R296). -/
inductive StoreOp where
  | sta | stx | sty | stz
  deriving DecidableEq, Repr

/-- The read-modify-write instructions that `Modify` serves (R191 to R196). -/
inductive RmwOp where
  | asl | lsr | rol | ror | inc | dec
  deriving DecidableEq, Repr

/-- Test-and-set and test-and-reset (R201, R202). -/
inductive TestOp where
  | tsb | trb
  deriving DecidableEq, Repr

/-- The condition of a short branch (R221 to R229). -/
inductive BranchCond where
  | carryClear | carrySet | equal | notEqual | minus | plus | overflowClear | overflowSet | always
  deriving DecidableEq, Repr

/-- The operation and the operand of an instruction that reads one operand (R160); none for the others. -/
def Instr.dataForm : Instr → Option (DataOp × DataOperand)
  | .oraDpIndX d => some (.ora, (.mem (.dpIndX d)))
  | .oraSr d => some (.ora, (.mem (.sr d)))
  | .oraDp d => some (.ora, (.mem (.dp d)))
  | .oraDpIndLong d => some (.ora, (.mem (.dpIndLong d)))
  | .oraImm imm => some (.ora, (.imm imm))
  | .oraAbs a => some (.ora, (.mem (.abs a)))
  | .oraLong al => some (.ora, (.mem (.long al)))
  | .oraDpIndY d => some (.ora, (.mem (.dpIndY d)))
  | .oraDpInd d => some (.ora, (.mem (.dpInd d)))
  | .oraSrIndY d => some (.ora, (.mem (.srIndY d)))
  | .oraDpX d => some (.ora, (.mem (.dpX d)))
  | .oraDpIndLongY d => some (.ora, (.mem (.dpIndLongY d)))
  | .oraAbsY a => some (.ora, (.mem (.absY a)))
  | .oraAbsX a => some (.ora, (.mem (.absX a)))
  | .oraLongX al => some (.ora, (.mem (.longX al)))
  | .andDpIndX d => some (.and, (.mem (.dpIndX d)))
  | .andSr d => some (.and, (.mem (.sr d)))
  | .bitDp d => some (.bit, (.mem (.dp d)))
  | .andDp d => some (.and, (.mem (.dp d)))
  | .andDpIndLong d => some (.and, (.mem (.dpIndLong d)))
  | .andImm imm => some (.and, (.imm imm))
  | .bitAbs a => some (.bit, (.mem (.abs a)))
  | .andAbs a => some (.and, (.mem (.abs a)))
  | .andLong al => some (.and, (.mem (.long al)))
  | .andDpIndY d => some (.and, (.mem (.dpIndY d)))
  | .andDpInd d => some (.and, (.mem (.dpInd d)))
  | .andSrIndY d => some (.and, (.mem (.srIndY d)))
  | .bitDpX d => some (.bit, (.mem (.dpX d)))
  | .andDpX d => some (.and, (.mem (.dpX d)))
  | .andDpIndLongY d => some (.and, (.mem (.dpIndLongY d)))
  | .andAbsY a => some (.and, (.mem (.absY a)))
  | .bitAbsX a => some (.bit, (.mem (.absX a)))
  | .andAbsX a => some (.and, (.mem (.absX a)))
  | .andLongX al => some (.and, (.mem (.longX al)))
  | .eorDpIndX d => some (.eor, (.mem (.dpIndX d)))
  | .eorSr d => some (.eor, (.mem (.sr d)))
  | .eorDp d => some (.eor, (.mem (.dp d)))
  | .eorDpIndLong d => some (.eor, (.mem (.dpIndLong d)))
  | .eorImm imm => some (.eor, (.imm imm))
  | .eorAbs a => some (.eor, (.mem (.abs a)))
  | .eorLong al => some (.eor, (.mem (.long al)))
  | .eorDpIndY d => some (.eor, (.mem (.dpIndY d)))
  | .eorDpInd d => some (.eor, (.mem (.dpInd d)))
  | .eorSrIndY d => some (.eor, (.mem (.srIndY d)))
  | .eorDpX d => some (.eor, (.mem (.dpX d)))
  | .eorDpIndLongY d => some (.eor, (.mem (.dpIndLongY d)))
  | .eorAbsY a => some (.eor, (.mem (.absY a)))
  | .eorAbsX a => some (.eor, (.mem (.absX a)))
  | .eorLongX al => some (.eor, (.mem (.longX al)))
  | .adcDpIndX d => some (.adc, (.mem (.dpIndX d)))
  | .adcSr d => some (.adc, (.mem (.sr d)))
  | .adcDp d => some (.adc, (.mem (.dp d)))
  | .adcDpIndLong d => some (.adc, (.mem (.dpIndLong d)))
  | .adcImm imm => some (.adc, (.imm imm))
  | .adcAbs a => some (.adc, (.mem (.abs a)))
  | .adcLong al => some (.adc, (.mem (.long al)))
  | .adcDpIndY d => some (.adc, (.mem (.dpIndY d)))
  | .adcDpInd d => some (.adc, (.mem (.dpInd d)))
  | .adcSrIndY d => some (.adc, (.mem (.srIndY d)))
  | .adcDpX d => some (.adc, (.mem (.dpX d)))
  | .adcDpIndLongY d => some (.adc, (.mem (.dpIndLongY d)))
  | .adcAbsY a => some (.adc, (.mem (.absY a)))
  | .adcAbsX a => some (.adc, (.mem (.absX a)))
  | .adcLongX al => some (.adc, (.mem (.longX al)))
  | .bitImm imm => some (.bit, (.imm imm))
  | .ldyImm imm => some (.ldy, (.imm imm))
  | .ldaDpIndX d => some (.lda, (.mem (.dpIndX d)))
  | .ldxImm imm => some (.ldx, (.imm imm))
  | .ldaSr d => some (.lda, (.mem (.sr d)))
  | .ldyDp d => some (.ldy, (.mem (.dp d)))
  | .ldaDp d => some (.lda, (.mem (.dp d)))
  | .ldxDp d => some (.ldx, (.mem (.dp d)))
  | .ldaDpIndLong d => some (.lda, (.mem (.dpIndLong d)))
  | .ldaImm imm => some (.lda, (.imm imm))
  | .ldyAbs a => some (.ldy, (.mem (.abs a)))
  | .ldaAbs a => some (.lda, (.mem (.abs a)))
  | .ldxAbs a => some (.ldx, (.mem (.abs a)))
  | .ldaLong al => some (.lda, (.mem (.long al)))
  | .ldaDpIndY d => some (.lda, (.mem (.dpIndY d)))
  | .ldaDpInd d => some (.lda, (.mem (.dpInd d)))
  | .ldaSrIndY d => some (.lda, (.mem (.srIndY d)))
  | .ldyDpX d => some (.ldy, (.mem (.dpX d)))
  | .ldaDpX d => some (.lda, (.mem (.dpX d)))
  | .ldxDpY d => some (.ldx, (.mem (.dpY d)))
  | .ldaDpIndLongY d => some (.lda, (.mem (.dpIndLongY d)))
  | .ldaAbsY a => some (.lda, (.mem (.absY a)))
  | .ldyAbsX a => some (.ldy, (.mem (.absX a)))
  | .ldaAbsX a => some (.lda, (.mem (.absX a)))
  | .ldxAbsY a => some (.ldx, (.mem (.absY a)))
  | .ldaLongX al => some (.lda, (.mem (.longX al)))
  | .cpyImm imm => some (.cpy, (.imm imm))
  | .cmpDpIndX d => some (.cmp, (.mem (.dpIndX d)))
  | .cmpSr d => some (.cmp, (.mem (.sr d)))
  | .cpyDp d => some (.cpy, (.mem (.dp d)))
  | .cmpDp d => some (.cmp, (.mem (.dp d)))
  | .cmpDpIndLong d => some (.cmp, (.mem (.dpIndLong d)))
  | .cmpImm imm => some (.cmp, (.imm imm))
  | .cpyAbs a => some (.cpy, (.mem (.abs a)))
  | .cmpAbs a => some (.cmp, (.mem (.abs a)))
  | .cmpLong al => some (.cmp, (.mem (.long al)))
  | .cmpDpIndY d => some (.cmp, (.mem (.dpIndY d)))
  | .cmpDpInd d => some (.cmp, (.mem (.dpInd d)))
  | .cmpSrIndY d => some (.cmp, (.mem (.srIndY d)))
  | .cmpDpX d => some (.cmp, (.mem (.dpX d)))
  | .cmpDpIndLongY d => some (.cmp, (.mem (.dpIndLongY d)))
  | .cmpAbsY a => some (.cmp, (.mem (.absY a)))
  | .cmpAbsX a => some (.cmp, (.mem (.absX a)))
  | .cmpLongX al => some (.cmp, (.mem (.longX al)))
  | .cpxImm imm => some (.cpx, (.imm imm))
  | .sbcDpIndX d => some (.sbc, (.mem (.dpIndX d)))
  | .sbcSr d => some (.sbc, (.mem (.sr d)))
  | .cpxDp d => some (.cpx, (.mem (.dp d)))
  | .sbcDp d => some (.sbc, (.mem (.dp d)))
  | .sbcDpIndLong d => some (.sbc, (.mem (.dpIndLong d)))
  | .sbcImm imm => some (.sbc, (.imm imm))
  | .cpxAbs a => some (.cpx, (.mem (.abs a)))
  | .sbcAbs a => some (.sbc, (.mem (.abs a)))
  | .sbcLong al => some (.sbc, (.mem (.long al)))
  | .sbcDpIndY d => some (.sbc, (.mem (.dpIndY d)))
  | .sbcDpInd d => some (.sbc, (.mem (.dpInd d)))
  | .sbcSrIndY d => some (.sbc, (.mem (.srIndY d)))
  | .sbcDpX d => some (.sbc, (.mem (.dpX d)))
  | .sbcDpIndLongY d => some (.sbc, (.mem (.dpIndLongY d)))
  | .sbcAbsY a => some (.sbc, (.mem (.absY a)))
  | .sbcAbsX a => some (.sbc, (.mem (.absX a)))
  | .sbcLongX al => some (.sbc, (.mem (.longX al)))
  | _ => none

/-- The store and its addressing mode (R293 to R296); none for the other instructions. -/
def Instr.storeForm : Instr → Option (StoreOp × AddrMode)
  | .stzDp d => some (.stz, (.dp d))
  | .stzDpX d => some (.stz, (.dpX d))
  | .staDpIndX d => some (.sta, (.dpIndX d))
  | .staSr d => some (.sta, (.sr d))
  | .styDp d => some (.sty, (.dp d))
  | .staDp d => some (.sta, (.dp d))
  | .stxDp d => some (.stx, (.dp d))
  | .staDpIndLong d => some (.sta, (.dpIndLong d))
  | .styAbs a => some (.sty, (.abs a))
  | .staAbs a => some (.sta, (.abs a))
  | .stxAbs a => some (.stx, (.abs a))
  | .staLong al => some (.sta, (.long al))
  | .staDpIndY d => some (.sta, (.dpIndY d))
  | .staDpInd d => some (.sta, (.dpInd d))
  | .staSrIndY d => some (.sta, (.srIndY d))
  | .styDpX d => some (.sty, (.dpX d))
  | .staDpX d => some (.sta, (.dpX d))
  | .stxDpY d => some (.stx, (.dpY d))
  | .staDpIndLongY d => some (.sta, (.dpIndLongY d))
  | .staAbsY a => some (.sta, (.absY a))
  | .stzAbs a => some (.stz, (.abs a))
  | .staAbsX a => some (.sta, (.absX a))
  | .stzAbsX a => some (.stz, (.absX a))
  | .staLongX al => some (.sta, (.longX al))
  | _ => none

/-- The shift, rotate, increment or decrement and its target (R190); none for the other instructions. -/
def Instr.rmwForm : Instr → Option (RmwOp × RmwTarget)
  | .aslDp d => some (.asl, (.mem (.dp d)))
  | .aslAcc => some (.asl, .acc)
  | .aslAbs a => some (.asl, (.mem (.abs a)))
  | .aslDpX d => some (.asl, (.mem (.dpX d)))
  | .incAcc => some (.inc, .acc)
  | .aslAbsX a => some (.asl, (.mem (.absX a)))
  | .rolDp d => some (.rol, (.mem (.dp d)))
  | .rolAcc => some (.rol, .acc)
  | .rolAbs a => some (.rol, (.mem (.abs a)))
  | .rolDpX d => some (.rol, (.mem (.dpX d)))
  | .decAcc => some (.dec, .acc)
  | .rolAbsX a => some (.rol, (.mem (.absX a)))
  | .lsrDp d => some (.lsr, (.mem (.dp d)))
  | .lsrAcc => some (.lsr, .acc)
  | .lsrAbs a => some (.lsr, (.mem (.abs a)))
  | .lsrDpX d => some (.lsr, (.mem (.dpX d)))
  | .lsrAbsX a => some (.lsr, (.mem (.absX a)))
  | .rorDp d => some (.ror, (.mem (.dp d)))
  | .rorAcc => some (.ror, .acc)
  | .rorAbs a => some (.ror, (.mem (.abs a)))
  | .rorDpX d => some (.ror, (.mem (.dpX d)))
  | .rorAbsX a => some (.ror, (.mem (.absX a)))
  | .decDp d => some (.dec, (.mem (.dp d)))
  | .decAbs a => some (.dec, (.mem (.abs a)))
  | .decDpX d => some (.dec, (.mem (.dpX d)))
  | .decAbsX a => some (.dec, (.mem (.absX a)))
  | .incDp d => some (.inc, (.mem (.dp d)))
  | .incAbs a => some (.inc, (.mem (.abs a)))
  | .incDpX d => some (.inc, (.mem (.dpX d)))
  | .incAbsX a => some (.inc, (.mem (.absX a)))
  | _ => none

/-- `TSB` or `TRB` and its addressing mode (R201, R202); none for the other instructions. -/
def Instr.testForm : Instr → Option (TestOp × AddrMode)
  | .tsbDp d => some (.tsb, (.dp d))
  | .tsbAbs a => some (.tsb, (.abs a))
  | .trbDp d => some (.trb, (.dp d))
  | .trbAbs a => some (.trb, (.abs a))
  | _ => none

/-- The condition and displacement of a short branch (R220 to R229); none for the other instructions. -/
def Instr.branchForm : Instr → Option (BranchCond × Byte)
  | .bpl rel => some (.plus, rel)
  | .bmi rel => some (.minus, rel)
  | .bvc rel => some (.overflowClear, rel)
  | .bvs rel => some (.overflowSet, rel)
  | .bra rel => some (.always, rel)
  | .bcc rel => some (.carryClear, rel)
  | .bcs rel => some (.carrySet, rel)
  | .bne rel => some (.notEqual, rel)
  | .beq rel => some (.equal, rel)
  | _ => none

/-- The flag that a single-flag instruction writes, and the value it writes (R330 to R336); none for the others. -/
def Instr.flagForm : Instr → Option (Flag × Bool)
  | .clc => some (.c, false)
  | .sec => some (.c, true)
  | .cli => some (.i, false)
  | .sei => some (.i, true)
  | .clv => some (.v, false)
  | .cld => some (.d, false)
  | .sed => some (.d, true)
  | _ => none

end Sys2Proof
end

