-- ==== Sys2Proof/WellFormed.lean ====
section
/-! DEFINITION. Well-formedness of an instruction under the state bits that decide its length (R93, R347).
The types of the constructors bound every other operand, so only the twelve width-dependent immediates and
the operand byte of `$42` are checked. -/

namespace Sys2Proof

/-- An immediate is one byte exactly when its governing width predicate says 8-bit (R93). -/
def Immediate.fits (eightBit : Bool) : Immediate → Bool
  | .byte _ => eightBit
  | .word _ => !eightBit

/-- The instruction is one that the decoder can meet under these widths and this K: `IMM_M` immediates follow
`m8`, `IMM_X` immediates follow `x8` (R93), and `$42` has its operand byte exactly when it is in K (R347). -/
def Instr.wellFormed (ctx : DecodeContext) : Instr → Bool
  | .oraImm imm => imm.fits ctx.m8
  | .andImm imm => imm.fits ctx.m8
  | .eorImm imm => imm.fits ctx.m8
  | .adcImm imm => imm.fits ctx.m8
  | .bitImm imm => imm.fits ctx.m8
  | .ldaImm imm => imm.fits ctx.m8
  | .cmpImm imm => imm.fits ctx.m8
  | .sbcImm imm => imm.fits ctx.m8
  | .ldyImm imm => imm.fits ctx.x8
  | .ldxImm imm => imm.fits ctx.x8
  | .cpyImm imm => imm.fits ctx.x8
  | .cpxImm imm => imm.fits ctx.x8
  | .wdm operand => operand.isSome == ctx.wdmKnown
  | _ => true

end Sys2Proof
end

