-- ==== Sys2Proof/Decode.lean ====
section
/-! DEFINITION. The decoder and the encoder. The decoder is the table of R95, sixteen opcodes a row; each entry
gives the instruction and its length in bytes (R91, R94). The encoder is written from the formats of R91. -/

namespace Sys2Proof

/-- Bits 7..0. -/
def lowByte (v : Word) : Byte := v.extractLsb' 0 8

/-- Bits 15..8. -/
def highByte (v : Word) : Byte := v.extractLsb' 8 8

/-- A 16-bit value from its bytes, low byte first (R69). -/
def word16 (lo hi : Byte) : Word := hi ++ lo

/-- `bank ++ offset` (R7). -/
def addr24 (bank : Byte) (offset : Word) : Addr := bank ++ offset

/-- The bank of a 24-bit address: bits 23..16. -/
def bankOf (a : Addr) : Byte := a.extractLsb' 16 8

/-- The offset of a 24-bit address in its bank: bits 15..0. -/
def offsetOf (a : Addr) : Word := a.extractLsb' 0 16

/-- A 24-bit value from its bytes, low byte first (R69, R92). -/
def long24 (lo hi bank : Byte) : Addr := addr24 bank (word16 lo hi)

/-- A width-dependent immediate and the length it gives the instruction: two bytes in all when the governing
predicate says 8-bit, else three (R91, R93). -/
def decodeImmediate (eightBit : Bool) (mk : Immediate → Instr) (b1 b2 : Byte) : Instr × Nat :=
  if eightBit then (mk (.byte b1), 2) else (mk (.word (word16 b1 b2)), 3)

/-- `$42`: the opcode byte alone when it is not in K, with one operand byte when it is (R96, R347). -/
def decodeReserved (known : Bool) (b1 : Byte) : Instr × Nat :=
  if known then (.wdm (some b1), 2) else (.wdm none, 1)

/-- Row `0x` of the opcode map (R95): the opcode whose low nibble is `lo`, its operand bytes after it. -/
def decodeRow0 (ctx : DecodeContext) (lo : Nat) (b1 b2 b3 : Byte) : Instr × Nat :=
  match lo with
  | 0 => (.brk b1, 2)
  | 1 => (.oraDpIndX b1, 2)
  | 2 => (.cop b1, 2)
  | 3 => (.oraSr b1, 2)
  | 4 => (.tsbDp b1, 2)
  | 5 => (.oraDp b1, 2)
  | 6 => (.aslDp b1, 2)
  | 7 => (.oraDpIndLong b1, 2)
  | 8 => (.php, 1)
  | 9 => decodeImmediate ctx.m8 .oraImm b1 b2
  | 10 => (.aslAcc, 1)
  | 11 => (.phd, 1)
  | 12 => (.tsbAbs (word16 b1 b2), 3)
  | 13 => (.oraAbs (word16 b1 b2), 3)
  | 14 => (.aslAbs (word16 b1 b2), 3)
  | _ => (.oraLong (long24 b1 b2 b3), 4)

/-- Row `1x` of the opcode map (R95): the opcode whose low nibble is `lo`, its operand bytes after it. -/
def decodeRow1 (_ctx : DecodeContext) (lo : Nat) (b1 b2 b3 : Byte) : Instr × Nat :=
  match lo with
  | 0 => (.bpl b1, 2)
  | 1 => (.oraDpIndY b1, 2)
  | 2 => (.oraDpInd b1, 2)
  | 3 => (.oraSrIndY b1, 2)
  | 4 => (.trbDp b1, 2)
  | 5 => (.oraDpX b1, 2)
  | 6 => (.aslDpX b1, 2)
  | 7 => (.oraDpIndLongY b1, 2)
  | 8 => (.clc, 1)
  | 9 => (.oraAbsY (word16 b1 b2), 3)
  | 10 => (.incAcc, 1)
  | 11 => (.tcs, 1)
  | 12 => (.trbAbs (word16 b1 b2), 3)
  | 13 => (.oraAbsX (word16 b1 b2), 3)
  | 14 => (.aslAbsX (word16 b1 b2), 3)
  | _ => (.oraLongX (long24 b1 b2 b3), 4)

/-- Row `2x` of the opcode map (R95): the opcode whose low nibble is `lo`, its operand bytes after it. -/
def decodeRow2 (ctx : DecodeContext) (lo : Nat) (b1 b2 b3 : Byte) : Instr × Nat :=
  match lo with
  | 0 => (.jsrAbs (word16 b1 b2), 3)
  | 1 => (.andDpIndX b1, 2)
  | 2 => (.jsl (long24 b1 b2 b3), 4)
  | 3 => (.andSr b1, 2)
  | 4 => (.bitDp b1, 2)
  | 5 => (.andDp b1, 2)
  | 6 => (.rolDp b1, 2)
  | 7 => (.andDpIndLong b1, 2)
  | 8 => (.plp, 1)
  | 9 => decodeImmediate ctx.m8 .andImm b1 b2
  | 10 => (.rolAcc, 1)
  | 11 => (.pld, 1)
  | 12 => (.bitAbs (word16 b1 b2), 3)
  | 13 => (.andAbs (word16 b1 b2), 3)
  | 14 => (.rolAbs (word16 b1 b2), 3)
  | _ => (.andLong (long24 b1 b2 b3), 4)

/-- Row `3x` of the opcode map (R95): the opcode whose low nibble is `lo`, its operand bytes after it. -/
def decodeRow3 (_ctx : DecodeContext) (lo : Nat) (b1 b2 b3 : Byte) : Instr × Nat :=
  match lo with
  | 0 => (.bmi b1, 2)
  | 1 => (.andDpIndY b1, 2)
  | 2 => (.andDpInd b1, 2)
  | 3 => (.andSrIndY b1, 2)
  | 4 => (.bitDpX b1, 2)
  | 5 => (.andDpX b1, 2)
  | 6 => (.rolDpX b1, 2)
  | 7 => (.andDpIndLongY b1, 2)
  | 8 => (.sec, 1)
  | 9 => (.andAbsY (word16 b1 b2), 3)
  | 10 => (.decAcc, 1)
  | 11 => (.tsc, 1)
  | 12 => (.bitAbsX (word16 b1 b2), 3)
  | 13 => (.andAbsX (word16 b1 b2), 3)
  | 14 => (.rolAbsX (word16 b1 b2), 3)
  | _ => (.andLongX (long24 b1 b2 b3), 4)

/-- Row `4x` of the opcode map (R95): the opcode whose low nibble is `lo`, its operand bytes after it. -/
def decodeRow4 (ctx : DecodeContext) (lo : Nat) (b1 b2 b3 : Byte) : Instr × Nat :=
  match lo with
  | 0 => (.rti, 1)
  | 1 => (.eorDpIndX b1, 2)
  | 2 => decodeReserved ctx.wdmKnown b1
  | 3 => (.eorSr b1, 2)
  | 4 => (.mvp b1 b2, 3)
  | 5 => (.eorDp b1, 2)
  | 6 => (.lsrDp b1, 2)
  | 7 => (.eorDpIndLong b1, 2)
  | 8 => (.pha, 1)
  | 9 => decodeImmediate ctx.m8 .eorImm b1 b2
  | 10 => (.lsrAcc, 1)
  | 11 => (.phk, 1)
  | 12 => (.jmpAbs (word16 b1 b2), 3)
  | 13 => (.eorAbs (word16 b1 b2), 3)
  | 14 => (.lsrAbs (word16 b1 b2), 3)
  | _ => (.eorLong (long24 b1 b2 b3), 4)

/-- Row `5x` of the opcode map (R95): the opcode whose low nibble is `lo`, its operand bytes after it. -/
def decodeRow5 (_ctx : DecodeContext) (lo : Nat) (b1 b2 b3 : Byte) : Instr × Nat :=
  match lo with
  | 0 => (.bvc b1, 2)
  | 1 => (.eorDpIndY b1, 2)
  | 2 => (.eorDpInd b1, 2)
  | 3 => (.eorSrIndY b1, 2)
  | 4 => (.mvn b1 b2, 3)
  | 5 => (.eorDpX b1, 2)
  | 6 => (.lsrDpX b1, 2)
  | 7 => (.eorDpIndLongY b1, 2)
  | 8 => (.cli, 1)
  | 9 => (.eorAbsY (word16 b1 b2), 3)
  | 10 => (.phy, 1)
  | 11 => (.tcd, 1)
  | 12 => (.jmlLong (long24 b1 b2 b3), 4)
  | 13 => (.eorAbsX (word16 b1 b2), 3)
  | 14 => (.lsrAbsX (word16 b1 b2), 3)
  | _ => (.eorLongX (long24 b1 b2 b3), 4)

/-- Row `6x` of the opcode map (R95): the opcode whose low nibble is `lo`, its operand bytes after it. -/
def decodeRow6 (ctx : DecodeContext) (lo : Nat) (b1 b2 b3 : Byte) : Instr × Nat :=
  match lo with
  | 0 => (.rts, 1)
  | 1 => (.adcDpIndX b1, 2)
  | 2 => (.per (word16 b1 b2), 3)
  | 3 => (.adcSr b1, 2)
  | 4 => (.stzDp b1, 2)
  | 5 => (.adcDp b1, 2)
  | 6 => (.rorDp b1, 2)
  | 7 => (.adcDpIndLong b1, 2)
  | 8 => (.pla, 1)
  | 9 => decodeImmediate ctx.m8 .adcImm b1 b2
  | 10 => (.rorAcc, 1)
  | 11 => (.rtl, 1)
  | 12 => (.jmpInd (word16 b1 b2), 3)
  | 13 => (.adcAbs (word16 b1 b2), 3)
  | 14 => (.rorAbs (word16 b1 b2), 3)
  | _ => (.adcLong (long24 b1 b2 b3), 4)

/-- Row `7x` of the opcode map (R95): the opcode whose low nibble is `lo`, its operand bytes after it. -/
def decodeRow7 (_ctx : DecodeContext) (lo : Nat) (b1 b2 b3 : Byte) : Instr × Nat :=
  match lo with
  | 0 => (.bvs b1, 2)
  | 1 => (.adcDpIndY b1, 2)
  | 2 => (.adcDpInd b1, 2)
  | 3 => (.adcSrIndY b1, 2)
  | 4 => (.stzDpX b1, 2)
  | 5 => (.adcDpX b1, 2)
  | 6 => (.rorDpX b1, 2)
  | 7 => (.adcDpIndLongY b1, 2)
  | 8 => (.sei, 1)
  | 9 => (.adcAbsY (word16 b1 b2), 3)
  | 10 => (.ply, 1)
  | 11 => (.tdc, 1)
  | 12 => (.jmpIndX (word16 b1 b2), 3)
  | 13 => (.adcAbsX (word16 b1 b2), 3)
  | 14 => (.rorAbsX (word16 b1 b2), 3)
  | _ => (.adcLongX (long24 b1 b2 b3), 4)

/-- Row `8x` of the opcode map (R95): the opcode whose low nibble is `lo`, its operand bytes after it. -/
def decodeRow8 (ctx : DecodeContext) (lo : Nat) (b1 b2 b3 : Byte) : Instr × Nat :=
  match lo with
  | 0 => (.bra b1, 2)
  | 1 => (.staDpIndX b1, 2)
  | 2 => (.brl (word16 b1 b2), 3)
  | 3 => (.staSr b1, 2)
  | 4 => (.styDp b1, 2)
  | 5 => (.staDp b1, 2)
  | 6 => (.stxDp b1, 2)
  | 7 => (.staDpIndLong b1, 2)
  | 8 => (.dey, 1)
  | 9 => decodeImmediate ctx.m8 .bitImm b1 b2
  | 10 => (.txa, 1)
  | 11 => (.phb, 1)
  | 12 => (.styAbs (word16 b1 b2), 3)
  | 13 => (.staAbs (word16 b1 b2), 3)
  | 14 => (.stxAbs (word16 b1 b2), 3)
  | _ => (.staLong (long24 b1 b2 b3), 4)

/-- Row `9x` of the opcode map (R95): the opcode whose low nibble is `lo`, its operand bytes after it. -/
def decodeRow9 (_ctx : DecodeContext) (lo : Nat) (b1 b2 b3 : Byte) : Instr × Nat :=
  match lo with
  | 0 => (.bcc b1, 2)
  | 1 => (.staDpIndY b1, 2)
  | 2 => (.staDpInd b1, 2)
  | 3 => (.staSrIndY b1, 2)
  | 4 => (.styDpX b1, 2)
  | 5 => (.staDpX b1, 2)
  | 6 => (.stxDpY b1, 2)
  | 7 => (.staDpIndLongY b1, 2)
  | 8 => (.tya, 1)
  | 9 => (.staAbsY (word16 b1 b2), 3)
  | 10 => (.txs, 1)
  | 11 => (.txy, 1)
  | 12 => (.stzAbs (word16 b1 b2), 3)
  | 13 => (.staAbsX (word16 b1 b2), 3)
  | 14 => (.stzAbsX (word16 b1 b2), 3)
  | _ => (.staLongX (long24 b1 b2 b3), 4)

/-- Row `Ax` of the opcode map (R95): the opcode whose low nibble is `lo`, its operand bytes after it. -/
def decodeRowA (ctx : DecodeContext) (lo : Nat) (b1 b2 b3 : Byte) : Instr × Nat :=
  match lo with
  | 0 => decodeImmediate ctx.x8 .ldyImm b1 b2
  | 1 => (.ldaDpIndX b1, 2)
  | 2 => decodeImmediate ctx.x8 .ldxImm b1 b2
  | 3 => (.ldaSr b1, 2)
  | 4 => (.ldyDp b1, 2)
  | 5 => (.ldaDp b1, 2)
  | 6 => (.ldxDp b1, 2)
  | 7 => (.ldaDpIndLong b1, 2)
  | 8 => (.tay, 1)
  | 9 => decodeImmediate ctx.m8 .ldaImm b1 b2
  | 10 => (.tax, 1)
  | 11 => (.plb, 1)
  | 12 => (.ldyAbs (word16 b1 b2), 3)
  | 13 => (.ldaAbs (word16 b1 b2), 3)
  | 14 => (.ldxAbs (word16 b1 b2), 3)
  | _ => (.ldaLong (long24 b1 b2 b3), 4)

/-- Row `Bx` of the opcode map (R95): the opcode whose low nibble is `lo`, its operand bytes after it. -/
def decodeRowB (_ctx : DecodeContext) (lo : Nat) (b1 b2 b3 : Byte) : Instr × Nat :=
  match lo with
  | 0 => (.bcs b1, 2)
  | 1 => (.ldaDpIndY b1, 2)
  | 2 => (.ldaDpInd b1, 2)
  | 3 => (.ldaSrIndY b1, 2)
  | 4 => (.ldyDpX b1, 2)
  | 5 => (.ldaDpX b1, 2)
  | 6 => (.ldxDpY b1, 2)
  | 7 => (.ldaDpIndLongY b1, 2)
  | 8 => (.clv, 1)
  | 9 => (.ldaAbsY (word16 b1 b2), 3)
  | 10 => (.tsx, 1)
  | 11 => (.tyx, 1)
  | 12 => (.ldyAbsX (word16 b1 b2), 3)
  | 13 => (.ldaAbsX (word16 b1 b2), 3)
  | 14 => (.ldxAbsY (word16 b1 b2), 3)
  | _ => (.ldaLongX (long24 b1 b2 b3), 4)

/-- Row `Cx` of the opcode map (R95): the opcode whose low nibble is `lo`, its operand bytes after it. -/
def decodeRowC (ctx : DecodeContext) (lo : Nat) (b1 b2 b3 : Byte) : Instr × Nat :=
  match lo with
  | 0 => decodeImmediate ctx.x8 .cpyImm b1 b2
  | 1 => (.cmpDpIndX b1, 2)
  | 2 => (.rep b1, 2)
  | 3 => (.cmpSr b1, 2)
  | 4 => (.cpyDp b1, 2)
  | 5 => (.cmpDp b1, 2)
  | 6 => (.decDp b1, 2)
  | 7 => (.cmpDpIndLong b1, 2)
  | 8 => (.iny, 1)
  | 9 => decodeImmediate ctx.m8 .cmpImm b1 b2
  | 10 => (.dex, 1)
  | 11 => (.wai, 1)
  | 12 => (.cpyAbs (word16 b1 b2), 3)
  | 13 => (.cmpAbs (word16 b1 b2), 3)
  | 14 => (.decAbs (word16 b1 b2), 3)
  | _ => (.cmpLong (long24 b1 b2 b3), 4)

/-- Row `Dx` of the opcode map (R95): the opcode whose low nibble is `lo`, its operand bytes after it. -/
def decodeRowD (_ctx : DecodeContext) (lo : Nat) (b1 b2 b3 : Byte) : Instr × Nat :=
  match lo with
  | 0 => (.bne b1, 2)
  | 1 => (.cmpDpIndY b1, 2)
  | 2 => (.cmpDpInd b1, 2)
  | 3 => (.cmpSrIndY b1, 2)
  | 4 => (.pei b1, 2)
  | 5 => (.cmpDpX b1, 2)
  | 6 => (.decDpX b1, 2)
  | 7 => (.cmpDpIndLongY b1, 2)
  | 8 => (.cld, 1)
  | 9 => (.cmpAbsY (word16 b1 b2), 3)
  | 10 => (.phx, 1)
  | 11 => (.stp, 1)
  | 12 => (.jmlIndLong (word16 b1 b2), 3)
  | 13 => (.cmpAbsX (word16 b1 b2), 3)
  | 14 => (.decAbsX (word16 b1 b2), 3)
  | _ => (.cmpLongX (long24 b1 b2 b3), 4)

/-- Row `Ex` of the opcode map (R95): the opcode whose low nibble is `lo`, its operand bytes after it. -/
def decodeRowE (ctx : DecodeContext) (lo : Nat) (b1 b2 b3 : Byte) : Instr × Nat :=
  match lo with
  | 0 => decodeImmediate ctx.x8 .cpxImm b1 b2
  | 1 => (.sbcDpIndX b1, 2)
  | 2 => (.sep b1, 2)
  | 3 => (.sbcSr b1, 2)
  | 4 => (.cpxDp b1, 2)
  | 5 => (.sbcDp b1, 2)
  | 6 => (.incDp b1, 2)
  | 7 => (.sbcDpIndLong b1, 2)
  | 8 => (.inx, 1)
  | 9 => decodeImmediate ctx.m8 .sbcImm b1 b2
  | 10 => (.nop, 1)
  | 11 => (.xba, 1)
  | 12 => (.cpxAbs (word16 b1 b2), 3)
  | 13 => (.sbcAbs (word16 b1 b2), 3)
  | 14 => (.incAbs (word16 b1 b2), 3)
  | _ => (.sbcLong (long24 b1 b2 b3), 4)

/-- Row `Fx` of the opcode map (R95): the opcode whose low nibble is `lo`, its operand bytes after it. -/
def decodeRowF (_ctx : DecodeContext) (lo : Nat) (b1 b2 b3 : Byte) : Instr × Nat :=
  match lo with
  | 0 => (.beq b1, 2)
  | 1 => (.sbcDpIndY b1, 2)
  | 2 => (.sbcDpInd b1, 2)
  | 3 => (.sbcSrIndY b1, 2)
  | 4 => (.pea (word16 b1 b2), 3)
  | 5 => (.sbcDpX b1, 2)
  | 6 => (.incDpX b1, 2)
  | 7 => (.sbcDpIndLongY b1, 2)
  | 8 => (.sed, 1)
  | 9 => (.sbcAbsY (word16 b1 b2), 3)
  | 10 => (.plx, 1)
  | 11 => (.xce, 1)
  | 12 => (.jsrIndX (word16 b1 b2), 3)
  | 13 => (.sbcAbsX (word16 b1 b2), 3)
  | 14 => (.incAbsX (word16 b1 b2), 3)
  | _ => (.sbcLongX (long24 b1 b2 b3), 4)

/-- The instruction at four bytes, the opcode first, and its length in bytes (R90, R94): total, since every opcode
byte is assigned (R95). The bytes past the instruction's length are not looked at. -/
def decodeBytes (ctx : DecodeContext) (op b1 b2 b3 : Byte) : Instr × Nat :=
  match op.toNat / 16 with
  | 0 => decodeRow0 ctx (op.toNat % 16) b1 b2 b3
  | 1 => decodeRow1 ctx (op.toNat % 16) b1 b2 b3
  | 2 => decodeRow2 ctx (op.toNat % 16) b1 b2 b3
  | 3 => decodeRow3 ctx (op.toNat % 16) b1 b2 b3
  | 4 => decodeRow4 ctx (op.toNat % 16) b1 b2 b3
  | 5 => decodeRow5 ctx (op.toNat % 16) b1 b2 b3
  | 6 => decodeRow6 ctx (op.toNat % 16) b1 b2 b3
  | 7 => decodeRow7 ctx (op.toNat % 16) b1 b2 b3
  | 8 => decodeRow8 ctx (op.toNat % 16) b1 b2 b3
  | 9 => decodeRow9 ctx (op.toNat % 16) b1 b2 b3
  | 10 => decodeRowA ctx (op.toNat % 16) b1 b2 b3
  | 11 => decodeRowB ctx (op.toNat % 16) b1 b2 b3
  | 12 => decodeRowC ctx (op.toNat % 16) b1 b2 b3
  | 13 => decodeRowD ctx (op.toNat % 16) b1 b2 b3
  | 14 => decodeRowE ctx (op.toNat % 16) b1 b2 b3
  | _ => decodeRowF ctx (op.toNat % 16) b1 b2 b3

/-- Why a byte string is no instruction. -/
inductive DecodeError where
  /-- There is no opcode byte. -/
  | empty
  /-- The operand bytes of this opcode are not all there. -/
  | truncated (op : Byte)
  deriving DecidableEq, Repr

/-- The instruction at the head of a byte string and the bytes after it (R90, R94). -/
def decode (ctx : DecodeContext) : List Byte → Except DecodeError (Instr × List Byte)
  | [] => .error .empty
  | op :: rest =>
    let d := decodeBytes ctx op (rest.getD 0 0) (rest.getD 1 0) (rest.getD 2 0)
    if d.2 ≤ rest.length + 1 then .ok (d.1, rest.drop (d.2 - 1)) else .error (.truncated op)

/-- The bytes of a 16-bit operand, low byte first (R92). -/
def wordBytes (v : Word) : List Byte := [lowByte v, highByte v]

/-- The bytes of a 24-bit operand, low byte first, the bank last (R92). -/
def longBytes (v : Addr) : List Byte := [lowByte (offsetOf v), highByte (offsetOf v), bankOf v]

/-- The bytes of a width-dependent immediate (R93). -/
def immediateBytes : Immediate → List Byte
  | .byte v => [v]
  | .word v => wordBytes v

/-- The bytes of an instruction: its opcode byte, then its operand bytes in the order of R91. -/
def encode : Instr → List Byte
  | .brk imm => [0x00, imm]
  | .oraDpIndX d => [0x01, d]
  | .cop imm => [0x02, imm]
  | .oraSr d => [0x03, d]
  | .tsbDp d => [0x04, d]
  | .oraDp d => [0x05, d]
  | .aslDp d => [0x06, d]
  | .oraDpIndLong d => [0x07, d]
  | .php => [0x08]
  | .oraImm imm => 0x09 :: immediateBytes imm
  | .aslAcc => [0x0A]
  | .phd => [0x0B]
  | .tsbAbs a => 0x0C :: wordBytes a
  | .oraAbs a => 0x0D :: wordBytes a
  | .aslAbs a => 0x0E :: wordBytes a
  | .oraLong al => 0x0F :: longBytes al
  | .bpl rel => [0x10, rel]
  | .oraDpIndY d => [0x11, d]
  | .oraDpInd d => [0x12, d]
  | .oraSrIndY d => [0x13, d]
  | .trbDp d => [0x14, d]
  | .oraDpX d => [0x15, d]
  | .aslDpX d => [0x16, d]
  | .oraDpIndLongY d => [0x17, d]
  | .clc => [0x18]
  | .oraAbsY a => 0x19 :: wordBytes a
  | .incAcc => [0x1A]
  | .tcs => [0x1B]
  | .trbAbs a => 0x1C :: wordBytes a
  | .oraAbsX a => 0x1D :: wordBytes a
  | .aslAbsX a => 0x1E :: wordBytes a
  | .oraLongX al => 0x1F :: longBytes al
  | .jsrAbs a => 0x20 :: wordBytes a
  | .andDpIndX d => [0x21, d]
  | .jsl al => 0x22 :: longBytes al
  | .andSr d => [0x23, d]
  | .bitDp d => [0x24, d]
  | .andDp d => [0x25, d]
  | .rolDp d => [0x26, d]
  | .andDpIndLong d => [0x27, d]
  | .plp => [0x28]
  | .andImm imm => 0x29 :: immediateBytes imm
  | .rolAcc => [0x2A]
  | .pld => [0x2B]
  | .bitAbs a => 0x2C :: wordBytes a
  | .andAbs a => 0x2D :: wordBytes a
  | .rolAbs a => 0x2E :: wordBytes a
  | .andLong al => 0x2F :: longBytes al
  | .bmi rel => [0x30, rel]
  | .andDpIndY d => [0x31, d]
  | .andDpInd d => [0x32, d]
  | .andSrIndY d => [0x33, d]
  | .bitDpX d => [0x34, d]
  | .andDpX d => [0x35, d]
  | .rolDpX d => [0x36, d]
  | .andDpIndLongY d => [0x37, d]
  | .sec => [0x38]
  | .andAbsY a => 0x39 :: wordBytes a
  | .decAcc => [0x3A]
  | .tsc => [0x3B]
  | .bitAbsX a => 0x3C :: wordBytes a
  | .andAbsX a => 0x3D :: wordBytes a
  | .rolAbsX a => 0x3E :: wordBytes a
  | .andLongX al => 0x3F :: longBytes al
  | .rti => [0x40]
  | .eorDpIndX d => [0x41, d]
  | .wdm operand => 0x42 :: operand.toList
  | .eorSr d => [0x43, d]
  | .mvp dst src => [0x44, dst, src]
  | .eorDp d => [0x45, d]
  | .lsrDp d => [0x46, d]
  | .eorDpIndLong d => [0x47, d]
  | .pha => [0x48]
  | .eorImm imm => 0x49 :: immediateBytes imm
  | .lsrAcc => [0x4A]
  | .phk => [0x4B]
  | .jmpAbs a => 0x4C :: wordBytes a
  | .eorAbs a => 0x4D :: wordBytes a
  | .lsrAbs a => 0x4E :: wordBytes a
  | .eorLong al => 0x4F :: longBytes al
  | .bvc rel => [0x50, rel]
  | .eorDpIndY d => [0x51, d]
  | .eorDpInd d => [0x52, d]
  | .eorSrIndY d => [0x53, d]
  | .mvn dst src => [0x54, dst, src]
  | .eorDpX d => [0x55, d]
  | .lsrDpX d => [0x56, d]
  | .eorDpIndLongY d => [0x57, d]
  | .cli => [0x58]
  | .eorAbsY a => 0x59 :: wordBytes a
  | .phy => [0x5A]
  | .tcd => [0x5B]
  | .jmlLong al => 0x5C :: longBytes al
  | .eorAbsX a => 0x5D :: wordBytes a
  | .lsrAbsX a => 0x5E :: wordBytes a
  | .eorLongX al => 0x5F :: longBytes al
  | .rts => [0x60]
  | .adcDpIndX d => [0x61, d]
  | .per rel => 0x62 :: wordBytes rel
  | .adcSr d => [0x63, d]
  | .stzDp d => [0x64, d]
  | .adcDp d => [0x65, d]
  | .rorDp d => [0x66, d]
  | .adcDpIndLong d => [0x67, d]
  | .pla => [0x68]
  | .adcImm imm => 0x69 :: immediateBytes imm
  | .rorAcc => [0x6A]
  | .rtl => [0x6B]
  | .jmpInd a => 0x6C :: wordBytes a
  | .adcAbs a => 0x6D :: wordBytes a
  | .rorAbs a => 0x6E :: wordBytes a
  | .adcLong al => 0x6F :: longBytes al
  | .bvs rel => [0x70, rel]
  | .adcDpIndY d => [0x71, d]
  | .adcDpInd d => [0x72, d]
  | .adcSrIndY d => [0x73, d]
  | .stzDpX d => [0x74, d]
  | .adcDpX d => [0x75, d]
  | .rorDpX d => [0x76, d]
  | .adcDpIndLongY d => [0x77, d]
  | .sei => [0x78]
  | .adcAbsY a => 0x79 :: wordBytes a
  | .ply => [0x7A]
  | .tdc => [0x7B]
  | .jmpIndX a => 0x7C :: wordBytes a
  | .adcAbsX a => 0x7D :: wordBytes a
  | .rorAbsX a => 0x7E :: wordBytes a
  | .adcLongX al => 0x7F :: longBytes al
  | .bra rel => [0x80, rel]
  | .staDpIndX d => [0x81, d]
  | .brl rel => 0x82 :: wordBytes rel
  | .staSr d => [0x83, d]
  | .styDp d => [0x84, d]
  | .staDp d => [0x85, d]
  | .stxDp d => [0x86, d]
  | .staDpIndLong d => [0x87, d]
  | .dey => [0x88]
  | .bitImm imm => 0x89 :: immediateBytes imm
  | .txa => [0x8A]
  | .phb => [0x8B]
  | .styAbs a => 0x8C :: wordBytes a
  | .staAbs a => 0x8D :: wordBytes a
  | .stxAbs a => 0x8E :: wordBytes a
  | .staLong al => 0x8F :: longBytes al
  | .bcc rel => [0x90, rel]
  | .staDpIndY d => [0x91, d]
  | .staDpInd d => [0x92, d]
  | .staSrIndY d => [0x93, d]
  | .styDpX d => [0x94, d]
  | .staDpX d => [0x95, d]
  | .stxDpY d => [0x96, d]
  | .staDpIndLongY d => [0x97, d]
  | .tya => [0x98]
  | .staAbsY a => 0x99 :: wordBytes a
  | .txs => [0x9A]
  | .txy => [0x9B]
  | .stzAbs a => 0x9C :: wordBytes a
  | .staAbsX a => 0x9D :: wordBytes a
  | .stzAbsX a => 0x9E :: wordBytes a
  | .staLongX al => 0x9F :: longBytes al
  | .ldyImm imm => 0xA0 :: immediateBytes imm
  | .ldaDpIndX d => [0xA1, d]
  | .ldxImm imm => 0xA2 :: immediateBytes imm
  | .ldaSr d => [0xA3, d]
  | .ldyDp d => [0xA4, d]
  | .ldaDp d => [0xA5, d]
  | .ldxDp d => [0xA6, d]
  | .ldaDpIndLong d => [0xA7, d]
  | .tay => [0xA8]
  | .ldaImm imm => 0xA9 :: immediateBytes imm
  | .tax => [0xAA]
  | .plb => [0xAB]
  | .ldyAbs a => 0xAC :: wordBytes a
  | .ldaAbs a => 0xAD :: wordBytes a
  | .ldxAbs a => 0xAE :: wordBytes a
  | .ldaLong al => 0xAF :: longBytes al
  | .bcs rel => [0xB0, rel]
  | .ldaDpIndY d => [0xB1, d]
  | .ldaDpInd d => [0xB2, d]
  | .ldaSrIndY d => [0xB3, d]
  | .ldyDpX d => [0xB4, d]
  | .ldaDpX d => [0xB5, d]
  | .ldxDpY d => [0xB6, d]
  | .ldaDpIndLongY d => [0xB7, d]
  | .clv => [0xB8]
  | .ldaAbsY a => 0xB9 :: wordBytes a
  | .tsx => [0xBA]
  | .tyx => [0xBB]
  | .ldyAbsX a => 0xBC :: wordBytes a
  | .ldaAbsX a => 0xBD :: wordBytes a
  | .ldxAbsY a => 0xBE :: wordBytes a
  | .ldaLongX al => 0xBF :: longBytes al
  | .cpyImm imm => 0xC0 :: immediateBytes imm
  | .cmpDpIndX d => [0xC1, d]
  | .rep imm => [0xC2, imm]
  | .cmpSr d => [0xC3, d]
  | .cpyDp d => [0xC4, d]
  | .cmpDp d => [0xC5, d]
  | .decDp d => [0xC6, d]
  | .cmpDpIndLong d => [0xC7, d]
  | .iny => [0xC8]
  | .cmpImm imm => 0xC9 :: immediateBytes imm
  | .dex => [0xCA]
  | .wai => [0xCB]
  | .cpyAbs a => 0xCC :: wordBytes a
  | .cmpAbs a => 0xCD :: wordBytes a
  | .decAbs a => 0xCE :: wordBytes a
  | .cmpLong al => 0xCF :: longBytes al
  | .bne rel => [0xD0, rel]
  | .cmpDpIndY d => [0xD1, d]
  | .cmpDpInd d => [0xD2, d]
  | .cmpSrIndY d => [0xD3, d]
  | .pei d => [0xD4, d]
  | .cmpDpX d => [0xD5, d]
  | .decDpX d => [0xD6, d]
  | .cmpDpIndLongY d => [0xD7, d]
  | .cld => [0xD8]
  | .cmpAbsY a => 0xD9 :: wordBytes a
  | .phx => [0xDA]
  | .stp => [0xDB]
  | .jmlIndLong a => 0xDC :: wordBytes a
  | .cmpAbsX a => 0xDD :: wordBytes a
  | .decAbsX a => 0xDE :: wordBytes a
  | .cmpLongX al => 0xDF :: longBytes al
  | .cpxImm imm => 0xE0 :: immediateBytes imm
  | .sbcDpIndX d => [0xE1, d]
  | .sep imm => [0xE2, imm]
  | .sbcSr d => [0xE3, d]
  | .cpxDp d => [0xE4, d]
  | .sbcDp d => [0xE5, d]
  | .incDp d => [0xE6, d]
  | .sbcDpIndLong d => [0xE7, d]
  | .inx => [0xE8]
  | .sbcImm imm => 0xE9 :: immediateBytes imm
  | .nop => [0xEA]
  | .xba => [0xEB]
  | .cpxAbs a => 0xEC :: wordBytes a
  | .sbcAbs a => 0xED :: wordBytes a
  | .incAbs a => 0xEE :: wordBytes a
  | .sbcLong al => 0xEF :: longBytes al
  | .beq rel => [0xF0, rel]
  | .sbcDpIndY d => [0xF1, d]
  | .sbcDpInd d => [0xF2, d]
  | .sbcSrIndY d => [0xF3, d]
  | .pea imm => 0xF4 :: wordBytes imm
  | .sbcDpX d => [0xF5, d]
  | .incDpX d => [0xF6, d]
  | .sbcDpIndLongY d => [0xF7, d]
  | .sed => [0xF8]
  | .sbcAbsY a => 0xF9 :: wordBytes a
  | .plx => [0xFA]
  | .xce => [0xFB]
  | .jsrIndX a => 0xFC :: wordBytes a
  | .sbcAbsX a => 0xFD :: wordBytes a
  | .incAbsX a => 0xFE :: wordBytes a
  | .sbcLongX al => 0xFF :: longBytes al

/-- The length in bytes of an instruction (R91). -/
def Instr.length (i : Instr) : Nat := (encode i).length

/-- The opcode byte of an instruction (R95). -/
def Instr.opcode (i : Instr) : Byte := (encode i).headD 0

/-- The decoding context of the state after reset: both widths 8-bit (R36) and `$42` not in K (R6). -/
def resetContext : DecodeContext := ⟨true, true, false⟩

/-- Byte `k` of a word of `nbits` bits numbered as the opcode table numbers them: bits `8k+7 .. 8k`. -/
def tableByte (nbits w k : Nat) : Byte := BitVec.ofNat 8 (w % 2 ^ nbits / 256 ^ k)

/-- The four bytes of such a word, lowest address first, zero above `nbits`. -/
def tableBytes (nbits w : Nat) : List Byte :=
  [tableByte nbits w 0, tableByte nbits w 1, tableByte nbits w 2, tableByte nbits w 3]

/-- The instruction the decoder reads from an opcode-table word, in the context of the state after reset
(log entry 15). -/
def decodeTableWord (nbits w : Nat) : Option Instr :=
  match decode resetContext (tableBytes nbits w) with
  | .ok (i, _) => some i
  | .error _ => none

end Sys2Proof
end

