-- ==== Sys2Proof/Machine/State.lean ====
section
/-! DEFINITION. The state of the machine as plain data: the CPU register file (R20 to R32), CPU memory (R60), the
APU and its ARAM (R33, R61), the DSP (R34), and the operations the host has pending (R466). -/

namespace Sys2Proof.Machine

/-- Memory as (address, byte) cells in canonical form: addresses rising, no entry equal to what an unlisted
address reads as (log entry 1). -/
abbrev Memory := List Host.Cell

/-- `run` (R31). -/
inductive RunState where
  | running
  | waiting
  | stopped
  deriving DecidableEq, Repr

/-- One entry of the stream `reports` (R32): the opcode byte, the bank and the offset it was fetched from. -/
structure UnknownOpcode where
  op : Byte
  bank : Byte
  offset : Word
  deriving DecidableEq, Repr

/-- An APU timer (R370). -/
structure Timer where
  enabled : Bool
  counter : Byte
  target : Byte
  out : BitVec 4
  deriving DecidableEq, Repr

/-- The envelope phase: 0 attack, 1 decay, 2 sustain, 3 release (R401). -/
inductive Phase where
  | attack
  | decay
  | sustain
  | release
  deriving DecidableEq, Repr

/-- A DSP channel (R34). `outx` is the live OUTX value of R404 (log entry 19). -/
structure Channel where
  keyOn : Bool
  srcn : Byte
  pitch : BitVec 14
  volL : Byte
  volR : Byte
  gain : Byte
  adsr1 : Byte
  adsr2 : Byte
  phase : Phase
  env : BitVec 11
  brrAddr : Word
  brrPos : BitVec 4
  p1 : Word
  p2 : Word
  frac : Word
  outx : Byte
  deriving DecidableEq, Repr

/-- A stereo sample: two signed 16-bit values (R420). -/
structure Sample where
  left : Word
  right : Word
  deriving DecidableEq, Repr

/-- The ring buffer as (index, sample) cells in the same canonical form as memory; an unlisted entry reads as
silence (R420; log entry 3). -/
abbrev Ring := List (Nat × Sample)

/-- The DSP (R34). `endx` holds the ENDX bits (R402; log entry 19); `sampleNumber` counts output samples for
`EnvelopeRate` (R413; log entry 20). -/
structure Dsp where
  regs : Vector Byte 128
  channels : Vector Channel 8
  endx : Byte
  ring : Ring
  writeCursor : Nat
  frameBoundary : Nat
  stepCount : Nat
  sampleNumber : Nat
  deriving DecidableEq, Repr

/-- An unknown opcode the APU met: the byte and where it was fetched (R365 item 3; log entry 8). -/
structure ApuUnknownOpcode where
  op : Byte
  offset : Word
  deriving DecidableEq, Repr

/-- The audio coprocessor (R33). -/
structure Apu where
  regs : ApuRegs
  aram : Memory
  inPorts : Vector Byte 4
  outPorts : Vector Byte 4
  timers : Vector Timer 3
  dspAddr : Byte
  dsp : Dsp
  reports : List ApuUnknownOpcode
  deriving DecidableEq, Repr

/-- The values that CPU reset leaves unspecified, as arguments of the reset (R36, R471, U1). -/
structure ResetDraw where
  c : Word
  xl : Byte
  yl : Byte
  sl : Byte
  n : Bool
  v : Bool
  z : Bool
  carry : Bool
  deriving DecidableEq, Repr

/-- What the surroundings may do to the block between steps (R466; log entry 13). -/
inductive HostAction where
  /-- `Step()`: the CPU engine takes its turn (R430). -/
  | step
  /-- `Reset()` of the CPU; the draw is what it leaves unspecified (R470, R471). -/
  | reset (draw : ResetDraw)
  /-- Set `irq_line` (R442). -/
  | setIrq (level : Bool)
  /-- Pulse `nmi` (R443). -/
  | pulseNmi
  /-- Load program data into CPU memory (R473). -/
  | loadMemory (addr : Addr) (bytes : List Byte)
  /-- APU and DSP reset; the ring is what it leaves unspecified (R389, R422). -/
  | apuReset (ring : Ring)
  /-- `Cycle()` (R361). -/
  | cycle
  /-- `RunCycles(n)` (R361). -/
  | runCycles (n : Nat)
  /-- Write `in_ports[i]` (R382). -/
  | writeInPort (i : Fin 4) (v : Byte)
  /-- Upload blocks to ARAM (R385). -/
  | upload (src : List Byte)
  /-- Set `apu.PC` (R364). -/
  | setApuPc (pc : Word)
  /-- `ResetSampleBuffer()` (R420). -/
  | resetSampleBuffer
  /-- `NewFrame()` (R420). -/
  | newFrame
  /-- The host reads the ring up to the frame boundary and moves its cursor there (R421). -/
  | drainSamples
  deriving DecidableEq, Repr

/-- Everything the spec gives the machine. -/
structure State where
  /-- `C`, the accumulator (R21, R22). -/
  c : Word
  /-- `X` (R21, R23). -/
  x : Word
  /-- `Y` (R21, R23). -/
  y : Word
  /-- `S`, the stack pointer (R21, R24). -/
  sp : Word
  /-- `D`, the direct-page register (R21). -/
  d : Word
  /-- `DB`, the data bank (R21). -/
  db : Byte
  /-- `PB`, the program bank (R21). -/
  pb : Byte
  /-- `PC` (R26). -/
  pc : Word
  /-- `P`, the status byte (R27). -/
  p : Byte
  /-- `E`, the emulation-mode bit (R29). -/
  e : Bool
  /-- `run` (R31). -/
  run : RunState
  /-- `nmi_pending` (R31). -/
  nmiPending : Bool
  /-- `irq_line`, the level of the IRQ input (R31, R442). -/
  irqLine : Bool
  /-- CPU memory (R60). -/
  mem : Memory
  /-- `reports` (R32). -/
  reports : List UnknownOpcode
  /-- The audio coprocessor (R33). -/
  apu : Apu
  /-- The host's ring read cursor `rd` (R421; log entry 18). -/
  readCursor : Nat
  /-- Host operations not yet performed, oldest first (R466; log entry 13). -/
  hostQueue : List HostAction
  /-- The parameters of R6 (log entry 6). -/
  config : Config
  /-- How many free values have been drawn (log entry 10). -/
  freeCounter : Nat
  deriving DecidableEq, Repr

/-- Why the machine stops with a fault: never. No instruction can fault, trap entry cannot fail and no rule has a
fatal outcome (R70, R74, R441, R449, R457), so this type has no constructor. -/
inductive Fault where
  deriving DecidableEq, Repr

/-- Why the model gives no next state. -/
inductive Refusal where
  /-- Raised by `exec` for an instruction that has no meaning yet; safe. -/
  | notModelled (mnemonic : String)
  /-- Raised by the `ADC` and `SBC` forms when `P.D = 1` and the parameter `DECIMAL_MODE` is `refuse`
  (R163, R164: "else: refuse"); safe. The default configuration never raises it (log entry 11). -/
  | decimalModeRefuses
  deriving DecidableEq, Repr

/-- A channel after DSP reset (R34, R422). -/
def Channel.reset : Channel :=
  { keyOn := false, srcn := 0, pitch := 0, volL := 0, volR := 0, gain := 0, adsr1 := 0, adsr2 := 0,
    phase := .release, env := 0, brrAddr := 0, brrPos := 0, p1 := 0, p2 := 0, frac := 0, outx := 0 }

/-- The DSP after reset, with the ring contents that reset leaves unspecified as an argument (R34, R422). -/
def Dsp.reset (ring : Ring) : Dsp :=
  { regs := (Vector.replicate 128 0).set 0x6C 0xE0
    channels := Vector.replicate 8 Channel.reset
    endx := 0
    ring := ring
    writeCursor := 0
    frameBoundary := 0
    stepCount := 0
    sampleNumber := 0 }

/-- A timer after APU reset (R33). -/
def Timer.reset : Timer := { enabled := false, counter := 0, target := 0, out := 0 }

/-- The APU after reset (R33, R389): ARAM and the ring are what they were given as; the rest is fixed. -/
def Apu.reset (resetPc : Word) (aram : Memory) (ring : Ring) : Apu :=
  { regs := { pc := resetPc, a := 0, x := 0, y := 0, sp := 0xEF, psw := 0 }
    aram := aram
    inPorts := Vector.replicate 4 0
    outPorts := Vector.replicate 4 0
    timers := Vector.replicate 3 Timer.reset
    dspAddr := 0
    dsp := Dsp.reset ring
    reports := [] }

/-- The machine right after reset with nothing loaded (R36, R33, R34). Memory lists nothing, so the reset vector
reads $0000 (log entry 1); `C`, `XL`, `YL`, `SL`, N, V, Z, C are DESIGN CHOICE (log entry 4). -/
def State.reset : State :=
  { c := 0
    x := 0
    y := 0
    sp := 0x01FF
    d := 0
    db := 0
    pb := 0
    pc := 0
    p := 0x34
    e := true
    run := .running
    nmiPending := false
    irqLine := false
    mem := []
    reports := []
    apu := Apu.reset Config.openApuResetPc [] []
    readCursor := 0
    hostQueue := []
    config := Config.default
    freeCounter := 0 }

end Sys2Proof.Machine
end

