-- ==== Sys2Proof/Machine/Memory.lean ====
section
/-! DEFINITION. Memory: sparse cells in canonical form (CPU memory, ARAM and the sample ring share them), the
memory primitives of R64 to R68, and instruction fetch. -/

namespace Sys2Proof.Machine

/-- The value at a key; an unlisted key reads as `dflt`. -/
def cellRead {α : Type} (dflt : α) : List (Nat × α) → Nat → α
  | [], _ => dflt
  | cell :: rest, k => if cell.1 = k then cell.2 else cellRead dflt rest k

/-- Put a cell at its place in a list of rising keys. -/
def cellInsert {α : Type} (cell : Nat × α) : List (Nat × α) → List (Nat × α)
  | [] => [cell]
  | h :: rest => if cell.1 < h.1 then cell :: h :: rest else h :: cellInsert cell rest

/-- Replace the value at a key, keeping the canonical form: writing `dflt` removes the entry. -/
def cellWrite {α : Type} [DecidableEq α] (dflt : α) (m : List (Nat × α)) (k : Nat) (v : α) : List (Nat × α) :=
  let others := m.filter (fun cell => cell.1 ≠ k)
  if v = dflt then others else cellInsert (k, v) others

/-- The canonical form: keys strictly rising, no entry equal to `dflt`. -/
def cellsCanonical {α : Type} [DecidableEq α] (dflt : α) : List (Nat × α) → Bool
  | [] => true
  | [cell] => decide (cell.2 ≠ dflt)
  | cell :: next :: rest => decide (cell.1 < next.1 ∧ cell.2 ≠ dflt) && cellsCanonical dflt (next :: rest)

/-- What a byte that nothing has written reads as, in CPU memory and in ARAM: zero. DESIGN CHOICE, unsafe
(log entries 1 and 2); the spec says any value (U7). -/
def unlistedByte : Byte := 0

/-- What a ring entry that nothing has written reads as: silence. DESIGN CHOICE, unsafe (log entry 3). -/
def unlistedSample : Sample := ⟨0, 0⟩

/-- CPU memory is in canonical form over its 2^24 addresses (R60). -/
def Memory.wf (m : Memory) : Bool := cellsCanonical unlistedByte m && m.all (fun cell => cell.1 < 2 ^ 24)

/-- ARAM is in canonical form over its 2^16 addresses (R61). -/
def Aram.wf (m : Memory) : Bool := cellsCanonical unlistedByte m && m.all (fun cell => cell.1 < 2 ^ 16)

/-- The byte at a CPU address: `BusRead` of the default environment (R63). -/
def memByte (m : Memory) (a : Addr) : Byte := cellRead unlistedByte m a.toNat

/-- `BusWrite` of the default environment (R63). -/
def memPutByte (m : Memory) (a : Addr) (v : Byte) : Memory := cellWrite unlistedByte m a.toNat v

/-- `MemRead(addr, 2)` (R64): little-endian, flat modulo 2^24. -/
def memWord (m : Memory) (a : Addr) : Word := word16 (memByte m a) (memByte m (a + 1))

/-- `MemWrite(addr, 2, v)` (R65): low byte first. -/
def memPutWord (m : Memory) (a : Addr) (v : Word) : Memory :=
  memPutByte (memPutByte m a (lowByte v)) (a + 1) (highByte v)

/-- `WriteData(ea, w, v)` (R68): one or two bytes, low byte first. -/
def memPutData (m : Memory) (a : Addr) (w : Width) (v : Word) : Memory :=
  match w with
  | .byte => memPutByte m a (lowByte v)
  | .word => memPutWord m a v

/-- `ReadData(ea, w)` (R68), as a value below `2^(8w)`. -/
def memData (m : Memory) (a : Addr) (w : Width) : Word :=
  match w with
  | .byte => (memByte m a).setWidth 16
  | .word => memWord m a

/-- An address in bank 0 (R66). -/
def bank0 (offset : Word) : Addr := addr24 0 offset

/-- The two bytes at an offset of a bank, the second offset wrapping modulo 2^16 (R66, R144). -/
def memWordInBank (m : Memory) (bank : Byte) (offset : Word) : Word :=
  word16 (memByte m (addr24 bank offset)) (memByte m (addr24 bank (offset + 1)))

/-- `MemRead0(a16, 2)` (R66). -/
def memWord0 (m : Memory) (offset : Word) : Word := memWordInBank m 0 offset

/-- `MemRead0(a16, 3)` (R66). -/
def memLong0 (m : Memory) (offset : Word) : Addr :=
  long24 (memByte m (bank0 offset)) (memByte m (bank0 (offset + 1))) (memByte m (bank0 (offset + 2)))

/-- Write bytes at successive offsets of a bank, wrapping modulo 2^16. -/
def memPutInBank (m : Memory) (bank : Byte) (offset : Word) : List Byte → Memory
  | [] => m
  | v :: rest => memPutInBank (memPutByte m (addr24 bank offset) v) bank (offset + 1) rest

/-- Write bytes at successive flat addresses, wrapping modulo 2^24. -/
def memPutBytes (m : Memory) (a : Addr) : List Byte → Memory
  | [] => m
  | v :: rest => memPutBytes (memPutByte m a v) (a + 1) rest

/-- Byte `k` of the instruction at `PB:PC`: the offset wraps in the program bank (R67). -/
def State.codeByte (s : State) (k : Word) : Byte := memByte s.mem (addr24 s.pb (s.pc + k))

/-- The byte at an ARAM address (R362). -/
def aramByte (m : Memory) (a : Word) : Byte := cellRead unlistedByte m a.toNat

/-- Replace the byte at an ARAM address (R362). -/
def aramPutByte (m : Memory) (a : Word) (v : Byte) : Memory := cellWrite unlistedByte m a.toNat v

/-- `aram16(a)`: little-endian, wrapping modulo 65536 (R407). -/
def aramWord (m : Memory) (a : Word) : Word := word16 (aramByte m a) (aramByte m (a + 1))

/-- Entry `i` of the ring (R420). -/
def ringSample (r : Ring) (i : Nat) : Sample := cellRead unlistedSample r i

/-- Replace entry `i` of the ring (R416). -/
def ringPut (r : Ring) (i : Nat) (v : Sample) : Ring := cellWrite unlistedSample r i v

/-- A ring with the given entries, in canonical form. -/
def ringOf (entries : List (Nat × Sample)) : Ring :=
  entries.foldl (fun r entry => ringPut r entry.1 entry.2) []

/-- The ring is in canonical form. -/
def Ring.wf (r : Ring) : Bool := cellsCanonical unlistedSample r

end Sys2Proof.Machine
end

