-- ==== Sys2Proof/Machine/Flags.lean ====
section
/-! DEFINITION. The status byte `P` (R27), the width predicates (R9), and every computation that sets flags:
`SetNZ`, binary and decimal addition, compare, the shifts and the bit tests (R10, R161, R162, R168, R190 to R196). -/

namespace Sys2Proof.Machine

/-- The bit number of a flag in `P` (R27). -/
def flagBit : Flag → Nat
  | .n => 7
  | .v => 6
  | .m => 5
  | .x => 4
  | .d => 3
  | .i => 2
  | .z => 1
  | .c => 0

/-- The status byte with one flag replaced. -/
def putFlag (p : Byte) (f : Flag) (b : Bool) : Byte :=
  if b then p ||| (1#8 <<< flagBit f) else p &&& ~~~(1#8 <<< flagBit f)

/-- A flag of a status byte. -/
def statusFlag (p : Byte) (f : Flag) : Bool := p.getLsbD (flagBit f)

/-- A flag of `P` (R8). -/
def State.flag (s : State) (f : Flag) : Bool := statusFlag s.p f

/-- `P.f <- b`. -/
def State.setFlag (s : State) (f : Flag) (b : Bool) : State := { s with p := putFlag s.p f b }

/-- The width that an 8-bit predicate selects (R9). -/
def widthOf (eightBit : Bool) : Width := if eightBit then .byte else .word

/-- `m8` (R9). -/
def State.m8 (s : State) : Bool := s.e || s.flag .m

/-- `x8` (R9). -/
def State.x8 (s : State) : Bool := s.e || s.flag .x

/-- `mw`, the width of the accumulator and of memory operands (R9). -/
def State.mw (s : State) : Width := widthOf s.m8

/-- `xw`, the width of the index registers (R9). -/
def State.xw (s : State) : Width := widthOf s.x8

/-- `$FF` or `$FFFF` (R9). -/
def widthMask : Width → Word
  | .byte => 0x00FF
  | .word => 0xFFFF

/-- `$80` or `$8000` (R9). -/
def widthSign : Width → Word
  | .byte => 0x0080
  | .word => 0x8000

/-- The number of the sign bit, `8w - 1` (R10). -/
def widthTop : Width → Nat
  | .byte => 7
  | .word => 15

/-- `v & mask_w`. -/
def trunc (w : Width) (v : Word) : Word := v &&& widthMask w

/-- N and Z of the status byte from a value in a width (R10). -/
def statusNZ (p : Byte) (v : Word) (w : Width) : Byte :=
  putFlag (putFlag p .z (decide (trunc w v = 0))) .n (v.getLsbD (widthTop w))

/-- `SetNZ(v, w)` (R10). -/
def State.setNZ (s : State) (v : Word) (w : Width) : State := { s with p := statusNZ s.p v w }

/-- What an addition gives: the result, the carry out and the signed overflow. -/
structure SumResult where
  value : Word
  carry : Bool
  overflow : Bool
  deriving DecidableEq, Repr

/-- `AddBinary(a, m, cin, w)` (R161) for `a`, `m` below `2^(8w)`. -/
def addBinary (w : Width) (a m : Word) (cin : Bool) : SumResult :=
  let s := a.toNat + m.toNat + cin.toNat
  let r := BitVec.ofNat 16 (s % 2 ^ w.bits)
  { value := r
    carry := s.testBit w.bits
    overflow := decide (~~~(a ^^^ m) &&& (a ^^^ r) &&& widthSign w ≠ 0) }

/-- The digits `0 .. k-1` of `AddDecimal` (R162): the result so far and the carry into digit `k`. -/
def addDecimalDigits (a m : Nat) (cin : Bool) : Nat → Nat × Bool
  | 0 => (0, cin)
  | k + 1 =>
    let below := addDecimalDigits a m cin k
    let lo := 4 * k
    let t := (a &&& (0xF <<< lo)) + (m &&& (0xF <<< lo)) + (below.2.toNat <<< lo) + below.1
    let t := if t > (0x9 <<< lo) + ((1 <<< lo) - 1) then t + (0x6 <<< lo) else t
    (t % 2 ^ (lo + 4), decide (t ≥ 2 ^ (lo + 4)))

/-- The result and carry of `AddDecimal(a, m, cin, w)` (R162). Its overflow is not computed: R162 leaves it
unspecified (log entry 10). -/
def addDecimal (w : Width) (a m : Word) (cin : Bool) : Word × Bool :=
  let r := addDecimalDigits a.toNat m.toNat cin (2 * w.bytes)
  (BitVec.ofNat 16 r.1, r.2)

/-- The digits `0 .. k-1` of `SubDecimal` (R162), on integers since a digit can go negative; `mc` is the operand
complemented. -/
def subDecimalDigits (a mc : Nat) (cin : Bool) : Nat → Int × Bool
  | 0 => (0, cin)
  | k + 1 =>
    let below := subDecimalDigits a mc cin k
    let lo := 4 * k
    let t : Int := ((a &&& (0xF <<< lo)) + (mc &&& (0xF <<< lo)) + (below.2.toNat <<< lo) : Nat) + below.1
    let t : Int := if t ≤ 2 ^ (lo + 4) - 1 then t - 6 * 2 ^ lo else t
    (t % 2 ^ (lo + 4), decide (t > 2 ^ (lo + 4) - 1))

/-- The result and carry of `SubDecimal(a, mc, cin, w)` (R162); the overflow is unspecified (log entry 10). -/
def subDecimal (w : Width) (a mc : Word) (cin : Bool) : Word × Bool :=
  let r := subDecimalDigits a.toNat mc.toNat cin (2 * w.bytes)
  (BitVec.ofInt 16 r.1, r.2)

/-- Every 4-bit digit of the value in this width is 0..9 (R162). -/
def isDecimal (w : Width) (v : Word) : Bool :=
  (List.range (2 * w.bytes)).all (fun k => v.toNat / 16 ^ k % 16 ≤ 9)

/-- `(~m) & mask_w` (R164, R168). -/
def complement (w : Width) (m : Word) : Word := trunc w (~~~m)

/-- The status byte after an addition: N, V, Z, C (R163, R164). -/
def statusSum (p : Byte) (w : Width) (r : SumResult) : Byte :=
  statusNZ (putFlag (putFlag p .c r.carry) .v r.overflow) r.value w

/-- The status byte after `Compare(r, m, w)` (R168): C is "no borrow", N and Z are those of the difference. -/
def statusCompare (p : Byte) (w : Width) (r m : Word) : Byte :=
  let s := r.toNat + (complement w m).toNat + 1
  statusNZ (putFlag p .c (s.testBit w.bits)) (BitVec.ofNat 16 (s % 2 ^ w.bits)) w

/-- `Compare(r, m, w)` (R168): the register and V are not changed. -/
def State.compare (s : State) (r m : Word) (w : Width) : State := { s with p := statusCompare s.p w r m }

/-- What a read-modify-write function gives: the new value, and the new carry if it writes one (R190). -/
structure ModifyResult where
  value : Word
  carry : Option Bool
  deriving DecidableEq, Repr

/-- `ASL` (R191). -/
def aslValue (w : Width) (v : Word) : ModifyResult :=
  { value := trunc w (v <<< 1), carry := some (v.getLsbD (widthTop w)) }

/-- `LSR` (R192). -/
def lsrValue (v : Word) : ModifyResult :=
  { value := v >>> 1, carry := some (v.getLsbD 0) }

/-- `ROL` (R193): the old carry enters bit 0. -/
def rolValue (w : Width) (cin : Bool) (v : Word) : ModifyResult :=
  { value := trunc w ((v <<< 1) ||| (if cin then 1 else 0)), carry := some (v.getLsbD (widthTop w)) }

/-- `ROR` (R194): the old carry enters the top bit. -/
def rorValue (w : Width) (cin : Bool) (v : Word) : ModifyResult :=
  { value := (v >>> 1) ||| (if cin then widthSign w else 0), carry := some (v.getLsbD 0) }

/-- `INC` (R195): the carry is not touched. -/
def incValue (w : Width) (v : Word) : ModifyResult :=
  { value := trunc w (v + 1), carry := none }

/-- `DEC` (R196): the carry is not touched. -/
def decValue (w : Width) (v : Word) : ModifyResult :=
  { value := trunc w (v - 1), carry := none }

/-- The status byte after a read-modify-write: C if it writes one, then N and Z (R191 to R196). -/
def statusModify (p : Byte) (w : Width) (r : ModifyResult) : Byte :=
  statusNZ (match r.carry with
    | some b => putFlag p .c b
    | none => p) r.value w

/-- The status byte after the memory forms of `BIT`: Z from the AND, N and V from the operand (R172). -/
def statusBit (p : Byte) (w : Width) (a m : Word) : Byte :=
  putFlag (putFlag (putFlag p .z (decide (trunc w (a &&& m) = 0))) .n (m.getLsbD (widthTop w)))
    .v (m.getLsbD (widthTop w - 1))

/-- Z of the status byte from `A & m`: the immediate form of `BIT`, `TSB`, `TRB` (R172, R201, R202). -/
def statusTest (p : Byte) (w : Width) (a m : Word) : Byte :=
  putFlag p .z (decide (trunc w (a &&& m) = 0))

end Sys2Proof.Machine
end

