-- ==== Sys2Proof/Machine/Ops.lean ====
section
/-! DEFINITION. The named operations over registers and memory: register views by width (R22, R23), the stack
(R260 to R263), `SetP` (R280), taking a trap and returning from one (R445, R446, R237), the unknown-opcode report
(R440), CPU reset (R470), and the bytes of the next instruction. -/

namespace Sys2Proof.Machine

/-- The outcome of a step or of a meaning. -/
abbrev Result := Host.Outcome State Fault Refusal

/-- Write the accumulator in a width: an 8-bit write keeps `B` (R22). -/
def withAcc (c : Word) (w : Width) (v : Word) : Word :=
  match w with
  | .byte => word16 (lowByte v) (highByte c)
  | .word => v

/-- `A` in a width, below `2^(8w)` (R22). -/
def State.acc (s : State) (w : Width) : Word := trunc w s.c

/-- `A <- v` in a width (R22). -/
def State.setAcc (s : State) (w : Width) (v : Word) : State := { s with c := withAcc s.c w v }

/-- `X & xmask` (R170). -/
def State.xIn (s : State) (w : Width) : Word := trunc w s.x

/-- `Y & xmask` (R171). -/
def State.yIn (s : State) (w : Width) : Word := trunc w s.y

/-- `X <- v` in a width: an 8-bit write leaves `XH` zero (R23). -/
def State.setX (s : State) (w : Width) (v : Word) : State := { s with x := trunc w v }

/-- `Y <- v` in a width: an 8-bit write leaves `YH` zero (R23). -/
def State.setY (s : State) (w : Width) (v : Word) : State := { s with y := trunc w v }

/-- `S` after it moves by `delta`: only `SL` moves in emulation mode (R260, R262). -/
def stackMove (e : Bool) (sp : Word) (delta : Word) : Word :=
  if e then word16 (lowByte (sp + delta)) (highByte sp) else sp + delta

/-- `S` with a new value: only `SL` is written in emulation mode (R304, R307). -/
def stackSet (e : Bool) (sp v : Word) : Word :=
  if e then word16 (lowByte v) (highByte sp) else v

/-- `Push8(v)` (R260): write at `S`, then decrement. -/
def State.push8 (s : State) (v : Byte) : State :=
  { s with mem := memPutByte s.mem (bank0 s.sp) v, sp := stackMove s.e s.sp (-1) }

/-- `Push16(v)` (R261): the high byte first. -/
def State.push16 (s : State) (v : Word) : State := (s.push8 (highByte v)).push8 (lowByte v)

/-- Push a value of a width: one byte or two (R264 to R266). -/
def State.pushData (s : State) (w : Width) (v : Word) : State :=
  match w with
  | .byte => s.push8 (lowByte v)
  | .word => s.push16 v

/-- The state after `Pull8()` has moved `S` (R262). -/
def State.pulled (s : State) : State := { s with sp := stackMove s.e s.sp 1 }

/-- The byte that `Pull8()` returns (R262): increment, then read. -/
def State.pull8 (s : State) : Byte := memByte s.mem (bank0 s.pulled.sp)

/-- The word that `Pull16()` returns (R263): low byte first. -/
def State.pull16 (s : State) : Word := word16 s.pull8 s.pulled.pull8

/-- The value a pull of a width returns (R271 to R273). -/
def State.pullData (s : State) (w : Width) : Word :=
  match w with
  | .byte => s.pull8.setWidth 16
  | .word => s.pull16

/-- The state after a pull of a width has moved `S`. -/
def State.pulledData (s : State) (w : Width) : State :=
  match w with
  | .byte => s.pulled
  | .word => s.pulled.pulled

/-- `SetP(v)` (R280): M and X stay 1 in emulation mode; X = 1 clears `XH` and `YH`. -/
def State.setP (s : State) (v : Byte) : State :=
  let p := if s.e then v ||| 0x30 else v
  let w := if statusFlag p .x then Width.byte else Width.word
  { s with p := p, x := trunc w s.x, y := trunc w s.y }

/-- The events that `TrapEnter` takes (R441, R445). -/
inductive Trap where
  | nmi
  | irq
  | brk
  | cop
  deriving DecidableEq, Repr

/-- `Vector(kind, E)` (R72). -/
def trapVector (k : Trap) (e : Bool) : Word :=
  match k with
  | .nmi => if e then 0xFFFA else 0xFFEA
  | .irq => if e then 0xFFFE else 0xFFEE
  | .brk => if e then 0xFFFE else 0xFFE6
  | .cop => if e then 0xFFF4 else 0xFFE4

/-- `PushedP(kind)` (R446): in emulation mode bit 4 is the Break flag and bit 5 is 1. -/
def pushedStatus (k : Trap) (e : Bool) (p : Byte) : Byte :=
  if e then
    match k with
    | .brk | .cop => p ||| 0x30
    | .nmi | .irq => (p ||| 0x20) &&& ~~~(0x10 : Byte)
  else p

/-- The three or four bytes that trap entry pushes (R445): `PB` in native mode, `PC`, the status. -/
def State.trapPushes (s : State) (k : Trap) : State :=
  ((if s.e then s else s.push8 s.pb).push16 s.pc).push8 (pushedStatus k s.e s.p)

/-- `TrapEnter(kind)` (R445): save, set I, clear D, bank 0, and the vector read after the pushes. -/
def State.trapEnter (s : State) (k : Trap) : State :=
  let t := s.trapPushes k
  { t with
    p := putFlag (putFlag t.p .i true) .d false
    pb := 0
    pc := memWord0 t.mem (trapVector k s.e) }

/-- Return from a trap (R237, R448): `P` through `SetP`, then `PC` exactly, then `PB` in native mode. -/
def State.trapReturn (s : State) : State :=
  let t := s.pulled.setP s.pull8
  let u := { t.pulled.pulled with pc := t.pull16 }
  if u.e then u else { u.pulled with pb := u.pull8 }

/-- Append `UnknownOpcode(op, PB, op_pc)` to `reports` (R440 item 1). -/
def State.reportUnknown (s : State) (op : Byte) (opPc : Word) : State :=
  { s with reports := s.reports ++ [⟨op, s.pb, opPc⟩] }

/-- The CPU reset sequence (R470); the draw is what the spec leaves unspecified (R471). -/
def State.cpuReset (s : State) (draw : ResetDraw) : State :=
  { s with
    e := true
    p := putFlag (putFlag (putFlag (putFlag 0x34 .n draw.n) .v draw.v) .z draw.z) .c draw.carry
    c := draw.c
    x := draw.xl.setWidth 16
    y := draw.yl.setWidth 16
    sp := word16 draw.sl 0x01
    d := 0
    db := 0
    pb := 0
    run := .running
    nmiPending := false
    reports := []
    pc := memWord0 s.mem 0xFFFC }

/-- The decoding context of the state: the widths now, and whether `$42` is in K (R93, R347). -/
def State.decodeContext (s : State) : DecodeContext := ⟨s.m8, s.x8, s.config.knows 0x42⟩

/-- The instruction at `PB:PC` and its length (R94, R431). -/
def State.nextInstr (s : State) : Instr × Nat :=
  decodeBytes s.decodeContext (s.codeByte 0) (s.codeByte 1) (s.codeByte 2) (s.codeByte 3)

/-- `PC` moved past fetched bytes, wrapping in the bank (R26, R67). -/
def State.advance (s : State) (n : Nat) : State := { s with pc := s.pc + BitVec.ofNat 16 n }

/-- The state with an opcode-table word stored where the engine fetches its next instruction, and nothing that
would make the next step do something else: the engine running, no interrupt, no host operation before it
(log entry 14). -/
def State.placeWord (s : State) (nbits w : Nat) : State :=
  { s with
    mem := memPutInBank s.mem s.pb s.pc (tableBytes nbits w)
    run := .running
    nmiPending := false
    irqLine := false
    hostQueue := [] }

end Sys2Proof.Machine
end

