-- ==== Sys2Proof/Machine/Operands.lean ====
section
/-! DEFINITION. The addressing modes (R120 to R148): effective addresses, operands and jump targets. In every
definition here `s.pc` is already past the instruction's operand bytes, which is where the resolvers of R120 leave
it (log entry 16). -/

namespace Sys2Proof.Machine

/-- `IndexAdd(bank, base16, idx16)` (R125): inside the bank, unless the parameter lets the index carry. -/
def indexAdd (carries : Bool) (bank : Byte) (base idx : Word) : Addr :=
  if carries then addr24 bank base + idx.setWidth 24 else addr24 bank (base + idx)

/-- `(D + d) mod 2^16` (R128). -/
def State.directPage (s : State) (d : Byte) : Word := s.d + d.setWidth 16

/-- `(S + d) mod 2^16` (R136). -/
def State.stackRelative (s : State) (d : Byte) : Word := s.sp + d.setWidth 16

/-- The effective address of a data addressing mode (R122 to R137). -/
def State.ea (s : State) : AddrMode → Addr
  | .abs a => addr24 s.db a
  | .absX a => indexAdd s.config.indexCarriesIntoBank s.db a s.x
  | .absY a => indexAdd s.config.indexCarriesIntoBank s.db a s.y
  | .long al => al
  | .longX al => al + s.x.setWidth 24
  | .dp d => bank0 (s.directPage d)
  | .dpX d => bank0 (s.directPage d + s.x)
  | .dpY d => bank0 (s.directPage d + s.y)
  | .dpInd d => addr24 s.db (memWord0 s.mem (s.directPage d))
  | .dpIndX d => addr24 s.db (memWord0 s.mem (s.directPage d + s.x))
  | .dpIndY d => indexAdd s.config.indexCarriesIntoBank s.db (memWord0 s.mem (s.directPage d)) s.y
  | .dpIndLong d => memLong0 s.mem (s.directPage d)
  | .dpIndLongY d => memLong0 s.mem (s.directPage d) + s.y.setWidth 24
  | .sr d => bank0 (s.stackRelative d)
  | .srIndY d => indexAdd s.config.indexCarriesIntoBank s.db (memWord0 s.mem (s.stackRelative d)) s.y

/-- The value of an immediate (R121), a one-byte one zero-extended. -/
def immediateValue : Immediate → Word
  | .byte v => v.setWidth 16
  | .word v => v

/-- `Operand(w)` (R160), below `2^(8w)`. An immediate that does not fit the width is never decoded (R93); its low
bytes are taken (log entry 16). -/
def State.operand (s : State) (o : DataOperand) (w : Width) : Word :=
  match o with
  | .imm v => trunc w (immediateValue v)
  | .mem mode => memData s.mem (s.ea mode) w

/-- `WriteData(ea, w, v)` (R68). -/
def State.writeData (s : State) (ea : Addr) (w : Width) (v : Word) : State :=
  { s with mem := memPutData s.mem ea w v }

/-- The target of a short branch (R140). -/
def State.relTarget (s : State) (rel : Byte) : Word := s.pc + rel.signExtend 16

/-- The target of `BRL` and the value of `PER` (R141). -/
def State.relLongTarget (s : State) (rel : Word) : Word := s.pc + rel

/-- The pointer of `JMP (a)`, read in bank 0 (R143). -/
def State.indirectTarget (s : State) (a : Word) : Word := memWord0 s.mem a

/-- The pointer of `JMP (a,X)` and `JSR (a,X)`, read in the program bank (R144). -/
def State.indexedTarget (s : State) (a : Word) : Word := memWordInBank s.mem s.pb (a + s.x)

/-- The pointer of `JML [a]`, three bytes in bank 0 (R145). -/
def State.indirectLongTarget (s : State) (a : Word) : Addr := memLong0 s.mem a

end Sys2Proof.Machine
end

