-- ==== Sys2Proof/Machine/Arithmetic.lean ====
section
/-! DEFINITION. Arithmetic, logic, compare and bit test: ADC SBC AND ORA EOR CMP CPX CPY BIT
(`41_arithmetic_logic_compare.md`). -/

namespace Sys2Proof.Machine

/-- The state after an addition: the accumulator and N, V, Z, C (R163, R164). -/
def State.applySum (s : State) (w : Width) (r : SumResult) : State :=
  { s with c := withAcc s.c w r.value, p := statusSum s.p w r }

/-- What a decimal addition gives (R162). The overflow is always free, and on an operand with a digit above 9 the
result and the carry are free too (log entry 10). -/
def State.decimalResult (s : State) (w : Width) (a m : Word) (sum : Word × Bool) : SumResult :=
  let k := s.freeCounter
  if isDecimal w a && isDecimal w m then
    { value := sum.1, carry := sum.2, overflow := Config.freeDecimalOverflow k }
  else
    { value := trunc w (Config.freeDecimalResult k), carry := Config.freeDecimalCarry k,
      overflow := Config.freeDecimalOverflow k }

/-- The choice between binary and decimal arithmetic that `ADC` and `SBC` share (R163, R164). A decimal addition
draws a free value (log entry 10). -/
def State.sum (s : State) (w : Width) (a m : Word) (bin : SumResult) (dec : Word × Bool) : Result :=
  if s.flag .d = false ∨ s.config.decimalMode = .binary then .next (s.applySum w bin)
  else if s.config.decimalMode = .bcd then
    .next { s.applySum w (s.decimalResult w a m dec) with freeCounter := s.freeCounter + 1 }
  else .refused .decimalModeRefuses

/-- `ADC` (R163). -/
def State.adc (s : State) (o : DataOperand) : Result :=
  let w := s.mw
  let a := s.acc w
  let m := s.operand o w
  s.sum w a m (addBinary w a m (s.flag .c)) (addDecimal w a m (s.flag .c))

/-- `SBC` (R164): addition of the complement. -/
def State.sbc (s : State) (o : DataOperand) : Result :=
  let w := s.mw
  let a := s.acc w
  let m := s.operand o w
  let mc := complement w m
  s.sum w a m (addBinary w a mc (s.flag .c)) (subDecimal w a mc (s.flag .c))

/-- Load a value into the accumulator and set N and Z (R165 to R167, R290). -/
def State.loadAcc (s : State) (w : Width) (v : Word) : State := (s.setAcc w v).setNZ v w

/-- `AND`, `ORA`, `EOR` (R165, R166, R167). -/
def State.logic (s : State) (f : Word → Word → Word) (o : DataOperand) : State :=
  s.loadAcc s.mw (f (s.acc s.mw) (s.operand o s.mw))

/-- `BIT` (R172): the immediate form changes Z only. -/
def State.bit (s : State) (o : DataOperand) : State :=
  let w := s.mw
  let m := s.operand o w
  match o with
  | .imm _ => { s with p := statusTest s.p w (s.acc w) m }
  | .mem _ => { s with p := statusBit s.p w (s.acc w) m }

/-- `$61` ADC (d,X) (R163). -/
def execAdcDpIndX (d : Byte) (s : State) : Result :=
  s.adc (.mem (.dpIndX d))

/-- `$63` ADC d,S (R163). -/
def execAdcSr (d : Byte) (s : State) : Result :=
  s.adc (.mem (.sr d))

/-- `$65` ADC d (R163). -/
def execAdcDp (d : Byte) (s : State) : Result :=
  s.adc (.mem (.dp d))

/-- `$67` ADC [d] (R163). -/
def execAdcDpIndLong (d : Byte) (s : State) : Result :=
  s.adc (.mem (.dpIndLong d))

/-- `$69` ADC #m (R163). -/
def execAdcImm (imm : Immediate) (s : State) : Result :=
  s.adc (.imm imm)

/-- `$6D` ADC a (R163). -/
def execAdcAbs (a : Word) (s : State) : Result :=
  s.adc (.mem (.abs a))

/-- `$6F` ADC al (R163). -/
def execAdcLong (al : Addr) (s : State) : Result :=
  s.adc (.mem (.long al))

/-- `$71` ADC (d),Y (R163). -/
def execAdcDpIndY (d : Byte) (s : State) : Result :=
  s.adc (.mem (.dpIndY d))

/-- `$72` ADC (d) (R163). -/
def execAdcDpInd (d : Byte) (s : State) : Result :=
  s.adc (.mem (.dpInd d))

/-- `$73` ADC (d,S),Y (R163). -/
def execAdcSrIndY (d : Byte) (s : State) : Result :=
  s.adc (.mem (.srIndY d))

/-- `$75` ADC d,X (R163). -/
def execAdcDpX (d : Byte) (s : State) : Result :=
  s.adc (.mem (.dpX d))

/-- `$77` ADC [d],Y (R163). -/
def execAdcDpIndLongY (d : Byte) (s : State) : Result :=
  s.adc (.mem (.dpIndLongY d))

/-- `$79` ADC a,Y (R163). -/
def execAdcAbsY (a : Word) (s : State) : Result :=
  s.adc (.mem (.absY a))

/-- `$7D` ADC a,X (R163). -/
def execAdcAbsX (a : Word) (s : State) : Result :=
  s.adc (.mem (.absX a))

/-- `$7F` ADC al,X (R163). -/
def execAdcLongX (al : Addr) (s : State) : Result :=
  s.adc (.mem (.longX al))

/-- `$E1` SBC (d,X) (R164). -/
def execSbcDpIndX (d : Byte) (s : State) : Result :=
  s.sbc (.mem (.dpIndX d))

/-- `$E3` SBC d,S (R164). -/
def execSbcSr (d : Byte) (s : State) : Result :=
  s.sbc (.mem (.sr d))

/-- `$E5` SBC d (R164). -/
def execSbcDp (d : Byte) (s : State) : Result :=
  s.sbc (.mem (.dp d))

/-- `$E7` SBC [d] (R164). -/
def execSbcDpIndLong (d : Byte) (s : State) : Result :=
  s.sbc (.mem (.dpIndLong d))

/-- `$E9` SBC #m (R164). -/
def execSbcImm (imm : Immediate) (s : State) : Result :=
  s.sbc (.imm imm)

/-- `$ED` SBC a (R164). -/
def execSbcAbs (a : Word) (s : State) : Result :=
  s.sbc (.mem (.abs a))

/-- `$EF` SBC al (R164). -/
def execSbcLong (al : Addr) (s : State) : Result :=
  s.sbc (.mem (.long al))

/-- `$F1` SBC (d),Y (R164). -/
def execSbcDpIndY (d : Byte) (s : State) : Result :=
  s.sbc (.mem (.dpIndY d))

/-- `$F2` SBC (d) (R164). -/
def execSbcDpInd (d : Byte) (s : State) : Result :=
  s.sbc (.mem (.dpInd d))

/-- `$F3` SBC (d,S),Y (R164). -/
def execSbcSrIndY (d : Byte) (s : State) : Result :=
  s.sbc (.mem (.srIndY d))

/-- `$F5` SBC d,X (R164). -/
def execSbcDpX (d : Byte) (s : State) : Result :=
  s.sbc (.mem (.dpX d))

/-- `$F7` SBC [d],Y (R164). -/
def execSbcDpIndLongY (d : Byte) (s : State) : Result :=
  s.sbc (.mem (.dpIndLongY d))

/-- `$F9` SBC a,Y (R164). -/
def execSbcAbsY (a : Word) (s : State) : Result :=
  s.sbc (.mem (.absY a))

/-- `$FD` SBC a,X (R164). -/
def execSbcAbsX (a : Word) (s : State) : Result :=
  s.sbc (.mem (.absX a))

/-- `$FF` SBC al,X (R164). -/
def execSbcLongX (al : Addr) (s : State) : Result :=
  s.sbc (.mem (.longX al))

/-- `$21` AND (d,X) (R165). -/
def execAndDpIndX (d : Byte) (s : State) : Result :=
  .next (s.logic (· &&& ·) (.mem (.dpIndX d)))

/-- `$23` AND d,S (R165). -/
def execAndSr (d : Byte) (s : State) : Result :=
  .next (s.logic (· &&& ·) (.mem (.sr d)))

/-- `$25` AND d (R165). -/
def execAndDp (d : Byte) (s : State) : Result :=
  .next (s.logic (· &&& ·) (.mem (.dp d)))

/-- `$27` AND [d] (R165). -/
def execAndDpIndLong (d : Byte) (s : State) : Result :=
  .next (s.logic (· &&& ·) (.mem (.dpIndLong d)))

/-- `$29` AND #m (R165). -/
def execAndImm (imm : Immediate) (s : State) : Result :=
  .next (s.logic (· &&& ·) (.imm imm))

/-- `$2D` AND a (R165). -/
def execAndAbs (a : Word) (s : State) : Result :=
  .next (s.logic (· &&& ·) (.mem (.abs a)))

/-- `$2F` AND al (R165). -/
def execAndLong (al : Addr) (s : State) : Result :=
  .next (s.logic (· &&& ·) (.mem (.long al)))

/-- `$31` AND (d),Y (R165). -/
def execAndDpIndY (d : Byte) (s : State) : Result :=
  .next (s.logic (· &&& ·) (.mem (.dpIndY d)))

/-- `$32` AND (d) (R165). -/
def execAndDpInd (d : Byte) (s : State) : Result :=
  .next (s.logic (· &&& ·) (.mem (.dpInd d)))

/-- `$33` AND (d,S),Y (R165). -/
def execAndSrIndY (d : Byte) (s : State) : Result :=
  .next (s.logic (· &&& ·) (.mem (.srIndY d)))

/-- `$35` AND d,X (R165). -/
def execAndDpX (d : Byte) (s : State) : Result :=
  .next (s.logic (· &&& ·) (.mem (.dpX d)))

/-- `$37` AND [d],Y (R165). -/
def execAndDpIndLongY (d : Byte) (s : State) : Result :=
  .next (s.logic (· &&& ·) (.mem (.dpIndLongY d)))

/-- `$39` AND a,Y (R165). -/
def execAndAbsY (a : Word) (s : State) : Result :=
  .next (s.logic (· &&& ·) (.mem (.absY a)))

/-- `$3D` AND a,X (R165). -/
def execAndAbsX (a : Word) (s : State) : Result :=
  .next (s.logic (· &&& ·) (.mem (.absX a)))

/-- `$3F` AND al,X (R165). -/
def execAndLongX (al : Addr) (s : State) : Result :=
  .next (s.logic (· &&& ·) (.mem (.longX al)))

/-- `$01` ORA (d,X) (R166). -/
def execOraDpIndX (d : Byte) (s : State) : Result :=
  .next (s.logic (· ||| ·) (.mem (.dpIndX d)))

/-- `$03` ORA d,S (R166). -/
def execOraSr (d : Byte) (s : State) : Result :=
  .next (s.logic (· ||| ·) (.mem (.sr d)))

/-- `$05` ORA d (R166). -/
def execOraDp (d : Byte) (s : State) : Result :=
  .next (s.logic (· ||| ·) (.mem (.dp d)))

/-- `$07` ORA [d] (R166). -/
def execOraDpIndLong (d : Byte) (s : State) : Result :=
  .next (s.logic (· ||| ·) (.mem (.dpIndLong d)))

/-- `$09` ORA #m (R166). -/
def execOraImm (imm : Immediate) (s : State) : Result :=
  .next (s.logic (· ||| ·) (.imm imm))

/-- `$0D` ORA a (R166). -/
def execOraAbs (a : Word) (s : State) : Result :=
  .next (s.logic (· ||| ·) (.mem (.abs a)))

/-- `$0F` ORA al (R166). -/
def execOraLong (al : Addr) (s : State) : Result :=
  .next (s.logic (· ||| ·) (.mem (.long al)))

/-- `$11` ORA (d),Y (R166). -/
def execOraDpIndY (d : Byte) (s : State) : Result :=
  .next (s.logic (· ||| ·) (.mem (.dpIndY d)))

/-- `$12` ORA (d) (R166). -/
def execOraDpInd (d : Byte) (s : State) : Result :=
  .next (s.logic (· ||| ·) (.mem (.dpInd d)))

/-- `$13` ORA (d,S),Y (R166). -/
def execOraSrIndY (d : Byte) (s : State) : Result :=
  .next (s.logic (· ||| ·) (.mem (.srIndY d)))

/-- `$15` ORA d,X (R166). -/
def execOraDpX (d : Byte) (s : State) : Result :=
  .next (s.logic (· ||| ·) (.mem (.dpX d)))

/-- `$17` ORA [d],Y (R166). -/
def execOraDpIndLongY (d : Byte) (s : State) : Result :=
  .next (s.logic (· ||| ·) (.mem (.dpIndLongY d)))

/-- `$19` ORA a,Y (R166). -/
def execOraAbsY (a : Word) (s : State) : Result :=
  .next (s.logic (· ||| ·) (.mem (.absY a)))

/-- `$1D` ORA a,X (R166). -/
def execOraAbsX (a : Word) (s : State) : Result :=
  .next (s.logic (· ||| ·) (.mem (.absX a)))

/-- `$1F` ORA al,X (R166). -/
def execOraLongX (al : Addr) (s : State) : Result :=
  .next (s.logic (· ||| ·) (.mem (.longX al)))

/-- `$41` EOR (d,X) (R167). -/
def execEorDpIndX (d : Byte) (s : State) : Result :=
  .next (s.logic (· ^^^ ·) (.mem (.dpIndX d)))

/-- `$43` EOR d,S (R167). -/
def execEorSr (d : Byte) (s : State) : Result :=
  .next (s.logic (· ^^^ ·) (.mem (.sr d)))

/-- `$45` EOR d (R167). -/
def execEorDp (d : Byte) (s : State) : Result :=
  .next (s.logic (· ^^^ ·) (.mem (.dp d)))

/-- `$47` EOR [d] (R167). -/
def execEorDpIndLong (d : Byte) (s : State) : Result :=
  .next (s.logic (· ^^^ ·) (.mem (.dpIndLong d)))

/-- `$49` EOR #m (R167). -/
def execEorImm (imm : Immediate) (s : State) : Result :=
  .next (s.logic (· ^^^ ·) (.imm imm))

/-- `$4D` EOR a (R167). -/
def execEorAbs (a : Word) (s : State) : Result :=
  .next (s.logic (· ^^^ ·) (.mem (.abs a)))

/-- `$4F` EOR al (R167). -/
def execEorLong (al : Addr) (s : State) : Result :=
  .next (s.logic (· ^^^ ·) (.mem (.long al)))

/-- `$51` EOR (d),Y (R167). -/
def execEorDpIndY (d : Byte) (s : State) : Result :=
  .next (s.logic (· ^^^ ·) (.mem (.dpIndY d)))

/-- `$52` EOR (d) (R167). -/
def execEorDpInd (d : Byte) (s : State) : Result :=
  .next (s.logic (· ^^^ ·) (.mem (.dpInd d)))

/-- `$53` EOR (d,S),Y (R167). -/
def execEorSrIndY (d : Byte) (s : State) : Result :=
  .next (s.logic (· ^^^ ·) (.mem (.srIndY d)))

/-- `$55` EOR d,X (R167). -/
def execEorDpX (d : Byte) (s : State) : Result :=
  .next (s.logic (· ^^^ ·) (.mem (.dpX d)))

/-- `$57` EOR [d],Y (R167). -/
def execEorDpIndLongY (d : Byte) (s : State) : Result :=
  .next (s.logic (· ^^^ ·) (.mem (.dpIndLongY d)))

/-- `$59` EOR a,Y (R167). -/
def execEorAbsY (a : Word) (s : State) : Result :=
  .next (s.logic (· ^^^ ·) (.mem (.absY a)))

/-- `$5D` EOR a,X (R167). -/
def execEorAbsX (a : Word) (s : State) : Result :=
  .next (s.logic (· ^^^ ·) (.mem (.absX a)))

/-- `$5F` EOR al,X (R167). -/
def execEorLongX (al : Addr) (s : State) : Result :=
  .next (s.logic (· ^^^ ·) (.mem (.longX al)))

/-- `$C1` CMP (d,X) (R169). -/
def execCmpDpIndX (d : Byte) (s : State) : Result :=
  .next (s.compare (s.acc s.mw) (s.operand (.mem (.dpIndX d)) s.mw) s.mw)

/-- `$C3` CMP d,S (R169). -/
def execCmpSr (d : Byte) (s : State) : Result :=
  .next (s.compare (s.acc s.mw) (s.operand (.mem (.sr d)) s.mw) s.mw)

/-- `$C5` CMP d (R169). -/
def execCmpDp (d : Byte) (s : State) : Result :=
  .next (s.compare (s.acc s.mw) (s.operand (.mem (.dp d)) s.mw) s.mw)

/-- `$C7` CMP [d] (R169). -/
def execCmpDpIndLong (d : Byte) (s : State) : Result :=
  .next (s.compare (s.acc s.mw) (s.operand (.mem (.dpIndLong d)) s.mw) s.mw)

/-- `$C9` CMP #m (R169). -/
def execCmpImm (imm : Immediate) (s : State) : Result :=
  .next (s.compare (s.acc s.mw) (s.operand (.imm imm) s.mw) s.mw)

/-- `$CD` CMP a (R169). -/
def execCmpAbs (a : Word) (s : State) : Result :=
  .next (s.compare (s.acc s.mw) (s.operand (.mem (.abs a)) s.mw) s.mw)

/-- `$CF` CMP al (R169). -/
def execCmpLong (al : Addr) (s : State) : Result :=
  .next (s.compare (s.acc s.mw) (s.operand (.mem (.long al)) s.mw) s.mw)

/-- `$D1` CMP (d),Y (R169). -/
def execCmpDpIndY (d : Byte) (s : State) : Result :=
  .next (s.compare (s.acc s.mw) (s.operand (.mem (.dpIndY d)) s.mw) s.mw)

/-- `$D2` CMP (d) (R169). -/
def execCmpDpInd (d : Byte) (s : State) : Result :=
  .next (s.compare (s.acc s.mw) (s.operand (.mem (.dpInd d)) s.mw) s.mw)

/-- `$D3` CMP (d,S),Y (R169). -/
def execCmpSrIndY (d : Byte) (s : State) : Result :=
  .next (s.compare (s.acc s.mw) (s.operand (.mem (.srIndY d)) s.mw) s.mw)

/-- `$D5` CMP d,X (R169). -/
def execCmpDpX (d : Byte) (s : State) : Result :=
  .next (s.compare (s.acc s.mw) (s.operand (.mem (.dpX d)) s.mw) s.mw)

/-- `$D7` CMP [d],Y (R169). -/
def execCmpDpIndLongY (d : Byte) (s : State) : Result :=
  .next (s.compare (s.acc s.mw) (s.operand (.mem (.dpIndLongY d)) s.mw) s.mw)

/-- `$D9` CMP a,Y (R169). -/
def execCmpAbsY (a : Word) (s : State) : Result :=
  .next (s.compare (s.acc s.mw) (s.operand (.mem (.absY a)) s.mw) s.mw)

/-- `$DD` CMP a,X (R169). -/
def execCmpAbsX (a : Word) (s : State) : Result :=
  .next (s.compare (s.acc s.mw) (s.operand (.mem (.absX a)) s.mw) s.mw)

/-- `$DF` CMP al,X (R169). -/
def execCmpLongX (al : Addr) (s : State) : Result :=
  .next (s.compare (s.acc s.mw) (s.operand (.mem (.longX al)) s.mw) s.mw)

/-- `$E0` CPX #x (R170). -/
def execCpxImm (imm : Immediate) (s : State) : Result :=
  .next (s.compare (s.xIn s.xw) (s.operand (.imm imm) s.xw) s.xw)

/-- `$E4` CPX d (R170). -/
def execCpxDp (d : Byte) (s : State) : Result :=
  .next (s.compare (s.xIn s.xw) (s.operand (.mem (.dp d)) s.xw) s.xw)

/-- `$EC` CPX a (R170). -/
def execCpxAbs (a : Word) (s : State) : Result :=
  .next (s.compare (s.xIn s.xw) (s.operand (.mem (.abs a)) s.xw) s.xw)

/-- `$C0` CPY #x (R171). -/
def execCpyImm (imm : Immediate) (s : State) : Result :=
  .next (s.compare (s.yIn s.xw) (s.operand (.imm imm) s.xw) s.xw)

/-- `$C4` CPY d (R171). -/
def execCpyDp (d : Byte) (s : State) : Result :=
  .next (s.compare (s.yIn s.xw) (s.operand (.mem (.dp d)) s.xw) s.xw)

/-- `$CC` CPY a (R171). -/
def execCpyAbs (a : Word) (s : State) : Result :=
  .next (s.compare (s.yIn s.xw) (s.operand (.mem (.abs a)) s.xw) s.xw)

/-- `$24` BIT d (R172). -/
def execBitDp (d : Byte) (s : State) : Result :=
  .next (s.bit (.mem (.dp d)))

/-- `$2C` BIT a (R172). -/
def execBitAbs (a : Word) (s : State) : Result :=
  .next (s.bit (.mem (.abs a)))

/-- `$34` BIT d,X (R172). -/
def execBitDpX (d : Byte) (s : State) : Result :=
  .next (s.bit (.mem (.dpX d)))

/-- `$3C` BIT a,X (R172). -/
def execBitAbsX (a : Word) (s : State) : Result :=
  .next (s.bit (.mem (.absX a)))

/-- `$89` BIT #m (R172). -/
def execBitImm (imm : Immediate) (s : State) : Result :=
  .next (s.bit (.imm imm))

end Sys2Proof.Machine
end

