-- ==== Sys2Proof/Machine/Control.lean ====
section
/-! DEFINITION. Control transfer: branches, JMP JML JSR JSL RTS RTL RTI BRK COP (`43_control_flow.md`). -/

namespace Sys2Proof.Machine

/-- The predicate of a short branch (R221 to R229). -/
def State.branchTaken (s : State) : BranchCond → Bool
  | .carryClear => !s.flag .c
  | .carrySet => s.flag .c
  | .equal => s.flag .z
  | .notEqual => !s.flag .z
  | .minus => s.flag .n
  | .plus => !s.flag .n
  | .overflowClear => !s.flag .v
  | .overflowSet => s.flag .v
  | .always => true

/-- `Branch(cond)` (R220). -/
def State.branch (s : State) (cond : BranchCond) (rel : Byte) : State :=
  { s with pc := if s.branchTaken cond then s.relTarget rel else s.pc }

/-- `PC <- target` (R142). -/
def State.jump (s : State) (target : Word) : State := { s with pc := target }

/-- `PB <- target[23:16]; PC <- target[15:0]` (R232). -/
def State.jumpLong (s : State) (target : Addr) : State :=
  { s with pb := bankOf target, pc := offsetOf target }

/-- `JSR` (R233): push the address of the instruction's last byte, then jump. -/
def State.call (s : State) (target : Word) : State := (s.push16 (s.pc - 1)).jump target

/-- `JSL` (R234): push the bank, then as `JSR`. -/
def State.callLong (s : State) (target : Addr) : State :=
  ((s.push8 s.pb).push16 (s.pc - 1)).jumpLong target

/-- `RTS` (R235). -/
def State.returnShort (s : State) : State := { s.pulled.pulled with pc := s.pull16 + 1 }

/-- `RTL` (R236): the increment does not carry into the bank. -/
def State.returnLong (s : State) : State :=
  { s.pulled.pulled.pulled with pc := s.pull16 + 1, pb := s.pulled.pulled.pull8 }

/-- `$90` BCC r (R221). -/
def execBcc (rel : Byte) (s : State) : Result :=
  .next (s.branch .carryClear rel)

/-- `$B0` BCS r (R222). -/
def execBcs (rel : Byte) (s : State) : Result :=
  .next (s.branch .carrySet rel)

/-- `$F0` BEQ r (R223). -/
def execBeq (rel : Byte) (s : State) : Result :=
  .next (s.branch .equal rel)

/-- `$D0` BNE r (R224). -/
def execBne (rel : Byte) (s : State) : Result :=
  .next (s.branch .notEqual rel)

/-- `$30` BMI r (R225). -/
def execBmi (rel : Byte) (s : State) : Result :=
  .next (s.branch .minus rel)

/-- `$10` BPL r (R226). -/
def execBpl (rel : Byte) (s : State) : Result :=
  .next (s.branch .plus rel)

/-- `$50` BVC r (R227). -/
def execBvc (rel : Byte) (s : State) : Result :=
  .next (s.branch .overflowClear rel)

/-- `$70` BVS r (R228). -/
def execBvs (rel : Byte) (s : State) : Result :=
  .next (s.branch .overflowSet rel)

/-- `$80` BRA r (R229). -/
def execBra (rel : Byte) (s : State) : Result :=
  .next (s.branch .always rel)

/-- `$82` BRL rl (R230). -/
def execBrl (rel : Word) (s : State) : Result :=
  .next (s.jump (s.relLongTarget rel))

/-- `$4C` JMP a (R231). -/
def execJmpAbs (a : Word) (s : State) : Result :=
  .next (s.jump a)

/-- `$6C` JMP (a) (R231). -/
def execJmpInd (a : Word) (s : State) : Result :=
  .next (s.jump (s.indirectTarget a))

/-- `$7C` JMP (a,X) (R231). -/
def execJmpIndX (a : Word) (s : State) : Result :=
  .next (s.jump (s.indexedTarget a))

/-- `$5C` JML al (R232). -/
def execJmlLong (al : Addr) (s : State) : Result :=
  .next (s.jumpLong al)

/-- `$DC` JML [a] (R232). -/
def execJmlIndLong (a : Word) (s : State) : Result :=
  .next (s.jumpLong (s.indirectLongTarget a))

/-- `$20` JSR a (R233). -/
def execJsrAbs (a : Word) (s : State) : Result :=
  .next (s.call a)

/-- `$FC` JSR (a,X) (R233). -/
def execJsrIndX (a : Word) (s : State) : Result :=
  .next (s.call (s.indexedTarget a))

/-- `$22` JSL al (R234). -/
def execJsl (al : Addr) (s : State) : Result :=
  .next (s.callLong al)

/-- `$60` RTS (R235). -/
def execRts (s : State) : Result :=
  .next s.returnShort

/-- `$6B` RTL (R236). -/
def execRtl (s : State) : Result :=
  .next s.returnLong

/-- `$40` RTI (R237). -/
def execRti (s : State) : Result :=
  .next s.trapReturn

/-- `$00` BRK #8 (R238). -/
def execBrk (_imm : Byte) (s : State) : Result :=
  .next (s.trapEnter .brk)

/-- `$02` COP #8 (R239). -/
def execCop (_imm : Byte) (s : State) : Result :=
  .next (s.trapEnter .cop)

end Sys2Proof.Machine
end

