-- ==== Sys2Proof/Machine/LoadStore.lean ====
section
/-! DEFINITION. Loads, stores and register transfers (`45_load_store_transfer.md`). -/

namespace Sys2Proof.Machine

/-- Load X in the index width and set N and Z (R291). -/
def State.loadX (s : State) (v : Word) : State := (s.setX s.xw v).setNZ v s.xw

/-- Load Y in the index width and set N and Z (R292). -/
def State.loadY (s : State) (v : Word) : State := (s.setY s.xw v).setNZ v s.xw

/-- Load all of `C` from a register and set N and Z in 16 bits (R306, R308). -/
def State.loadC (s : State) (v : Word) : State := State.setNZ { s with c := v } v .word

/-- `$A1` LDA (d,X) (R290). -/
def execLdaDpIndX (d : Byte) (s : State) : Result :=
  .next (s.loadAcc s.mw (s.operand (.mem (.dpIndX d)) s.mw))

/-- `$A3` LDA d,S (R290). -/
def execLdaSr (d : Byte) (s : State) : Result :=
  .next (s.loadAcc s.mw (s.operand (.mem (.sr d)) s.mw))

/-- `$A5` LDA d (R290). -/
def execLdaDp (d : Byte) (s : State) : Result :=
  .next (s.loadAcc s.mw (s.operand (.mem (.dp d)) s.mw))

/-- `$A7` LDA [d] (R290). -/
def execLdaDpIndLong (d : Byte) (s : State) : Result :=
  .next (s.loadAcc s.mw (s.operand (.mem (.dpIndLong d)) s.mw))

/-- `$A9` LDA #m (R290). -/
def execLdaImm (imm : Immediate) (s : State) : Result :=
  .next (s.loadAcc s.mw (s.operand (.imm imm) s.mw))

/-- `$AD` LDA a (R290). -/
def execLdaAbs (a : Word) (s : State) : Result :=
  .next (s.loadAcc s.mw (s.operand (.mem (.abs a)) s.mw))

/-- `$AF` LDA al (R290). -/
def execLdaLong (al : Addr) (s : State) : Result :=
  .next (s.loadAcc s.mw (s.operand (.mem (.long al)) s.mw))

/-- `$B1` LDA (d),Y (R290). -/
def execLdaDpIndY (d : Byte) (s : State) : Result :=
  .next (s.loadAcc s.mw (s.operand (.mem (.dpIndY d)) s.mw))

/-- `$B2` LDA (d) (R290). -/
def execLdaDpInd (d : Byte) (s : State) : Result :=
  .next (s.loadAcc s.mw (s.operand (.mem (.dpInd d)) s.mw))

/-- `$B3` LDA (d,S),Y (R290). -/
def execLdaSrIndY (d : Byte) (s : State) : Result :=
  .next (s.loadAcc s.mw (s.operand (.mem (.srIndY d)) s.mw))

/-- `$B5` LDA d,X (R290). -/
def execLdaDpX (d : Byte) (s : State) : Result :=
  .next (s.loadAcc s.mw (s.operand (.mem (.dpX d)) s.mw))

/-- `$B7` LDA [d],Y (R290). -/
def execLdaDpIndLongY (d : Byte) (s : State) : Result :=
  .next (s.loadAcc s.mw (s.operand (.mem (.dpIndLongY d)) s.mw))

/-- `$B9` LDA a,Y (R290). -/
def execLdaAbsY (a : Word) (s : State) : Result :=
  .next (s.loadAcc s.mw (s.operand (.mem (.absY a)) s.mw))

/-- `$BD` LDA a,X (R290). -/
def execLdaAbsX (a : Word) (s : State) : Result :=
  .next (s.loadAcc s.mw (s.operand (.mem (.absX a)) s.mw))

/-- `$BF` LDA al,X (R290). -/
def execLdaLongX (al : Addr) (s : State) : Result :=
  .next (s.loadAcc s.mw (s.operand (.mem (.longX al)) s.mw))

/-- `$A2` LDX #x (R291). -/
def execLdxImm (imm : Immediate) (s : State) : Result :=
  .next (s.loadX (s.operand (.imm imm) s.xw))

/-- `$A6` LDX d (R291). -/
def execLdxDp (d : Byte) (s : State) : Result :=
  .next (s.loadX (s.operand (.mem (.dp d)) s.xw))

/-- `$AE` LDX a (R291). -/
def execLdxAbs (a : Word) (s : State) : Result :=
  .next (s.loadX (s.operand (.mem (.abs a)) s.xw))

/-- `$B6` LDX d,Y (R291). -/
def execLdxDpY (d : Byte) (s : State) : Result :=
  .next (s.loadX (s.operand (.mem (.dpY d)) s.xw))

/-- `$BE` LDX a,Y (R291). -/
def execLdxAbsY (a : Word) (s : State) : Result :=
  .next (s.loadX (s.operand (.mem (.absY a)) s.xw))

/-- `$A0` LDY #x (R292). -/
def execLdyImm (imm : Immediate) (s : State) : Result :=
  .next (s.loadY (s.operand (.imm imm) s.xw))

/-- `$A4` LDY d (R292). -/
def execLdyDp (d : Byte) (s : State) : Result :=
  .next (s.loadY (s.operand (.mem (.dp d)) s.xw))

/-- `$AC` LDY a (R292). -/
def execLdyAbs (a : Word) (s : State) : Result :=
  .next (s.loadY (s.operand (.mem (.abs a)) s.xw))

/-- `$B4` LDY d,X (R292). -/
def execLdyDpX (d : Byte) (s : State) : Result :=
  .next (s.loadY (s.operand (.mem (.dpX d)) s.xw))

/-- `$BC` LDY a,X (R292). -/
def execLdyAbsX (a : Word) (s : State) : Result :=
  .next (s.loadY (s.operand (.mem (.absX a)) s.xw))

/-- `$81` STA (d,X) (R293). -/
def execStaDpIndX (d : Byte) (s : State) : Result :=
  .next (s.writeData (s.ea (.dpIndX d)) s.mw (s.acc s.mw))

/-- `$83` STA d,S (R293). -/
def execStaSr (d : Byte) (s : State) : Result :=
  .next (s.writeData (s.ea (.sr d)) s.mw (s.acc s.mw))

/-- `$85` STA d (R293). -/
def execStaDp (d : Byte) (s : State) : Result :=
  .next (s.writeData (s.ea (.dp d)) s.mw (s.acc s.mw))

/-- `$87` STA [d] (R293). -/
def execStaDpIndLong (d : Byte) (s : State) : Result :=
  .next (s.writeData (s.ea (.dpIndLong d)) s.mw (s.acc s.mw))

/-- `$8D` STA a (R293). -/
def execStaAbs (a : Word) (s : State) : Result :=
  .next (s.writeData (s.ea (.abs a)) s.mw (s.acc s.mw))

/-- `$8F` STA al (R293). -/
def execStaLong (al : Addr) (s : State) : Result :=
  .next (s.writeData (s.ea (.long al)) s.mw (s.acc s.mw))

/-- `$91` STA (d),Y (R293). -/
def execStaDpIndY (d : Byte) (s : State) : Result :=
  .next (s.writeData (s.ea (.dpIndY d)) s.mw (s.acc s.mw))

/-- `$92` STA (d) (R293). -/
def execStaDpInd (d : Byte) (s : State) : Result :=
  .next (s.writeData (s.ea (.dpInd d)) s.mw (s.acc s.mw))

/-- `$93` STA (d,S),Y (R293). -/
def execStaSrIndY (d : Byte) (s : State) : Result :=
  .next (s.writeData (s.ea (.srIndY d)) s.mw (s.acc s.mw))

/-- `$95` STA d,X (R293). -/
def execStaDpX (d : Byte) (s : State) : Result :=
  .next (s.writeData (s.ea (.dpX d)) s.mw (s.acc s.mw))

/-- `$97` STA [d],Y (R293). -/
def execStaDpIndLongY (d : Byte) (s : State) : Result :=
  .next (s.writeData (s.ea (.dpIndLongY d)) s.mw (s.acc s.mw))

/-- `$99` STA a,Y (R293). -/
def execStaAbsY (a : Word) (s : State) : Result :=
  .next (s.writeData (s.ea (.absY a)) s.mw (s.acc s.mw))

/-- `$9D` STA a,X (R293). -/
def execStaAbsX (a : Word) (s : State) : Result :=
  .next (s.writeData (s.ea (.absX a)) s.mw (s.acc s.mw))

/-- `$9F` STA al,X (R293). -/
def execStaLongX (al : Addr) (s : State) : Result :=
  .next (s.writeData (s.ea (.longX al)) s.mw (s.acc s.mw))

/-- `$86` STX d (R294). -/
def execStxDp (d : Byte) (s : State) : Result :=
  .next (s.writeData (s.ea (.dp d)) s.xw (s.xIn s.xw))

/-- `$8E` STX a (R294). -/
def execStxAbs (a : Word) (s : State) : Result :=
  .next (s.writeData (s.ea (.abs a)) s.xw (s.xIn s.xw))

/-- `$96` STX d,Y (R294). -/
def execStxDpY (d : Byte) (s : State) : Result :=
  .next (s.writeData (s.ea (.dpY d)) s.xw (s.xIn s.xw))

/-- `$84` STY d (R295). -/
def execStyDp (d : Byte) (s : State) : Result :=
  .next (s.writeData (s.ea (.dp d)) s.xw (s.yIn s.xw))

/-- `$8C` STY a (R295). -/
def execStyAbs (a : Word) (s : State) : Result :=
  .next (s.writeData (s.ea (.abs a)) s.xw (s.yIn s.xw))

/-- `$94` STY d,X (R295). -/
def execStyDpX (d : Byte) (s : State) : Result :=
  .next (s.writeData (s.ea (.dpX d)) s.xw (s.yIn s.xw))

/-- `$64` STZ d (R296). -/
def execStzDp (d : Byte) (s : State) : Result :=
  .next (s.writeData (s.ea (.dp d)) s.mw 0)

/-- `$74` STZ d,X (R296). -/
def execStzDpX (d : Byte) (s : State) : Result :=
  .next (s.writeData (s.ea (.dpX d)) s.mw 0)

/-- `$9C` STZ a (R296). -/
def execStzAbs (a : Word) (s : State) : Result :=
  .next (s.writeData (s.ea (.abs a)) s.mw 0)

/-- `$9E` STZ a,X (R296). -/
def execStzAbsX (a : Word) (s : State) : Result :=
  .next (s.writeData (s.ea (.absX a)) s.mw 0)

/-- `$AA` TAX (R297). -/
def execTax (s : State) : Result :=
  .next (s.loadX (trunc s.xw s.c))

/-- `$A8` TAY (R298). -/
def execTay (s : State) : Result :=
  .next (s.loadY (trunc s.xw s.c))

/-- `$8A` TXA (R299). -/
def execTxa (s : State) : Result :=
  .next (s.loadAcc s.mw (trunc s.mw s.x))

/-- `$98` TYA (R300). -/
def execTya (s : State) : Result :=
  .next (s.loadAcc s.mw (trunc s.mw s.y))

/-- `$9B` TXY (R301). -/
def execTxy (s : State) : Result :=
  .next (s.loadY (s.xIn s.xw))

/-- `$BB` TYX (R302). -/
def execTyx (s : State) : Result :=
  .next (s.loadX (s.yIn s.xw))

/-- `$BA` TSX (R303). -/
def execTsx (s : State) : Result :=
  .next (s.loadX (trunc s.xw s.sp))

/-- `$9A` TXS (R304). -/
def execTxs (s : State) : Result :=
  .next { s with sp := stackSet s.e s.sp s.x }

/-- `$5B` TCD (R305). -/
def execTcd (s : State) : Result :=
  .next (State.setNZ { s with d := s.c } s.c .word)

/-- `$7B` TDC (R306). -/
def execTdc (s : State) : Result :=
  .next (s.loadC s.d)

/-- `$1B` TCS (R307). -/
def execTcs (s : State) : Result :=
  .next { s with sp := stackSet s.e s.sp s.c }

/-- `$3B` TSC (R308). -/
def execTsc (s : State) : Result :=
  .next (s.loadC s.sp)

/-- `$EB` XBA (R309). -/
def execXba (s : State) : Result :=
  .next (State.setNZ { s with c := word16 (highByte s.c) (lowByte s.c) } (word16 (highByte s.c) (lowByte s.c)) .byte)

end Sys2Proof.Machine
end

