-- ==== Sys2Proof/Machine/ShiftInc.lean ====
section
/-! DEFINITION. Shifts, rotates, increments, decrements, test-and-set: ASL LSR ROL ROR INC DEC INX INY DEX DEY TSB TRB
(`42_shift_incdec.md`). -/

namespace Sys2Proof.Machine

/-- `Modify(f, mw)` (R190): read, compute, write the same place, set flags. -/
def State.modify (s : State) (f : Width → Bool → Word → ModifyResult) (t : RmwTarget) : State :=
  let w := s.mw
  match t with
  | .acc =>
    let r := f w (s.flag .c) (s.acc w)
    { s with c := withAcc s.c w r.value, p := statusModify s.p w r }
  | .mem mode =>
    let ea := s.ea mode
    let r := f w (s.flag .c) (memData s.mem ea w)
    { s with mem := memPutData s.mem ea w r.value, p := statusModify s.p w r }

/-- `TSB`, `TRB` (R201, R202): Z from the old memory value, then the memory value with the bits of `A` set or
cleared. -/
def State.testBits (s : State) (f : Word → Word → Word) (mode : AddrMode) : State :=
  let w := s.mw
  let ea := s.ea mode
  let v := memData s.mem ea w
  { s with mem := memPutData s.mem ea w (f v (s.acc w)), p := statusTest s.p w (s.acc w) v }

/-- `INX`, `DEX` (R197, R199). -/
def State.stepX (s : State) (delta : Word) : State :=
  let r := trunc s.xw (s.x + delta)
  (s.setX s.xw r).setNZ r s.xw

/-- `INY`, `DEY` (R198, R200). -/
def State.stepY (s : State) (delta : Word) : State :=
  let r := trunc s.xw (s.y + delta)
  (s.setY s.xw r).setNZ r s.xw

/-- `$06` ASL d (R191). -/
def execAslDp (d : Byte) (s : State) : Result :=
  .next (s.modify (fun w _ v => aslValue w v) (.mem (.dp d)))

/-- `$0A` ASL A (R191). -/
def execAslAcc (s : State) : Result :=
  .next (s.modify (fun w _ v => aslValue w v) .acc)

/-- `$0E` ASL a (R191). -/
def execAslAbs (a : Word) (s : State) : Result :=
  .next (s.modify (fun w _ v => aslValue w v) (.mem (.abs a)))

/-- `$16` ASL d,X (R191). -/
def execAslDpX (d : Byte) (s : State) : Result :=
  .next (s.modify (fun w _ v => aslValue w v) (.mem (.dpX d)))

/-- `$1E` ASL a,X (R191). -/
def execAslAbsX (a : Word) (s : State) : Result :=
  .next (s.modify (fun w _ v => aslValue w v) (.mem (.absX a)))

/-- `$46` LSR d (R192). -/
def execLsrDp (d : Byte) (s : State) : Result :=
  .next (s.modify (fun _ _ v => lsrValue v) (.mem (.dp d)))

/-- `$4A` LSR A (R192). -/
def execLsrAcc (s : State) : Result :=
  .next (s.modify (fun _ _ v => lsrValue v) .acc)

/-- `$4E` LSR a (R192). -/
def execLsrAbs (a : Word) (s : State) : Result :=
  .next (s.modify (fun _ _ v => lsrValue v) (.mem (.abs a)))

/-- `$56` LSR d,X (R192). -/
def execLsrDpX (d : Byte) (s : State) : Result :=
  .next (s.modify (fun _ _ v => lsrValue v) (.mem (.dpX d)))

/-- `$5E` LSR a,X (R192). -/
def execLsrAbsX (a : Word) (s : State) : Result :=
  .next (s.modify (fun _ _ v => lsrValue v) (.mem (.absX a)))

/-- `$26` ROL d (R193). -/
def execRolDp (d : Byte) (s : State) : Result :=
  .next (s.modify rolValue (.mem (.dp d)))

/-- `$2A` ROL A (R193). -/
def execRolAcc (s : State) : Result :=
  .next (s.modify rolValue .acc)

/-- `$2E` ROL a (R193). -/
def execRolAbs (a : Word) (s : State) : Result :=
  .next (s.modify rolValue (.mem (.abs a)))

/-- `$36` ROL d,X (R193). -/
def execRolDpX (d : Byte) (s : State) : Result :=
  .next (s.modify rolValue (.mem (.dpX d)))

/-- `$3E` ROL a,X (R193). -/
def execRolAbsX (a : Word) (s : State) : Result :=
  .next (s.modify rolValue (.mem (.absX a)))

/-- `$66` ROR d (R194). -/
def execRorDp (d : Byte) (s : State) : Result :=
  .next (s.modify rorValue (.mem (.dp d)))

/-- `$6A` ROR A (R194). -/
def execRorAcc (s : State) : Result :=
  .next (s.modify rorValue .acc)

/-- `$6E` ROR a (R194). -/
def execRorAbs (a : Word) (s : State) : Result :=
  .next (s.modify rorValue (.mem (.abs a)))

/-- `$76` ROR d,X (R194). -/
def execRorDpX (d : Byte) (s : State) : Result :=
  .next (s.modify rorValue (.mem (.dpX d)))

/-- `$7E` ROR a,X (R194). -/
def execRorAbsX (a : Word) (s : State) : Result :=
  .next (s.modify rorValue (.mem (.absX a)))

/-- `$1A` INC A (R195). -/
def execIncAcc (s : State) : Result :=
  .next (s.modify (fun w _ v => incValue w v) .acc)

/-- `$E6` INC d (R195). -/
def execIncDp (d : Byte) (s : State) : Result :=
  .next (s.modify (fun w _ v => incValue w v) (.mem (.dp d)))

/-- `$EE` INC a (R195). -/
def execIncAbs (a : Word) (s : State) : Result :=
  .next (s.modify (fun w _ v => incValue w v) (.mem (.abs a)))

/-- `$F6` INC d,X (R195). -/
def execIncDpX (d : Byte) (s : State) : Result :=
  .next (s.modify (fun w _ v => incValue w v) (.mem (.dpX d)))

/-- `$FE` INC a,X (R195). -/
def execIncAbsX (a : Word) (s : State) : Result :=
  .next (s.modify (fun w _ v => incValue w v) (.mem (.absX a)))

/-- `$3A` DEC A (R196). -/
def execDecAcc (s : State) : Result :=
  .next (s.modify (fun w _ v => decValue w v) .acc)

/-- `$C6` DEC d (R196). -/
def execDecDp (d : Byte) (s : State) : Result :=
  .next (s.modify (fun w _ v => decValue w v) (.mem (.dp d)))

/-- `$CE` DEC a (R196). -/
def execDecAbs (a : Word) (s : State) : Result :=
  .next (s.modify (fun w _ v => decValue w v) (.mem (.abs a)))

/-- `$D6` DEC d,X (R196). -/
def execDecDpX (d : Byte) (s : State) : Result :=
  .next (s.modify (fun w _ v => decValue w v) (.mem (.dpX d)))

/-- `$DE` DEC a,X (R196). -/
def execDecAbsX (a : Word) (s : State) : Result :=
  .next (s.modify (fun w _ v => decValue w v) (.mem (.absX a)))

/-- `$04` TSB d (R201). -/
def execTsbDp (d : Byte) (s : State) : Result :=
  .next (s.testBits (fun v a => v ||| a) (.dp d))

/-- `$0C` TSB a (R201). -/
def execTsbAbs (a : Word) (s : State) : Result :=
  .next (s.testBits (fun v a => v ||| a) (.abs a))

/-- `$14` TRB d (R202). -/
def execTrbDp (d : Byte) (s : State) : Result :=
  .next (s.testBits (fun v a => v &&& ~~~a) (.dp d))

/-- `$1C` TRB a (R202). -/
def execTrbAbs (a : Word) (s : State) : Result :=
  .next (s.testBits (fun v a => v &&& ~~~a) (.abs a))

/-- `$E8` INX (R197). -/
def execInx (s : State) : Result :=
  .next (s.stepX 1)

/-- `$CA` DEX (R199). -/
def execDex (s : State) : Result :=
  .next (s.stepX (-1))

/-- `$C8` INY (R198). -/
def execIny (s : State) : Result :=
  .next (s.stepY 1)

/-- `$88` DEY (R200). -/
def execDey (s : State) : Result :=
  .next (s.stepY (-1))

end Sys2Proof.Machine
end

