-- ==== Sys2Proof/Machine/Stack.lean ====
section
/-! DEFINITION. Pushes, pulls and effective-address pushes (`44_stack.md`). -/

namespace Sys2Proof.Machine

/-- A pull into the accumulator (R271). -/
def State.pullAcc (s : State) (w : Width) : State := ((s.pulledData w).setAcc w (s.pullData w)).setNZ (s.pullData w) w

/-- A pull into X (R272). -/
def State.pullX (s : State) (w : Width) : State := ((s.pulledData w).setX w (s.pullData w)).setNZ (s.pullData w) w

/-- A pull into Y (R273). -/
def State.pullY (s : State) (w : Width) : State := ((s.pulledData w).setY w (s.pullData w)).setNZ (s.pullData w) w

/-- `$48` PHA (R264). -/
def execPha (s : State) : Result :=
  .next (s.pushData s.mw s.c)

/-- `$DA` PHX (R265). -/
def execPhx (s : State) : Result :=
  .next (s.pushData s.xw s.x)

/-- `$5A` PHY (R266). -/
def execPhy (s : State) : Result :=
  .next (s.pushData s.xw s.y)

/-- `$8B` PHB (R267). -/
def execPhb (s : State) : Result :=
  .next (s.push8 s.db)

/-- `$0B` PHD (R268). -/
def execPhd (s : State) : Result :=
  .next (s.push16 s.d)

/-- `$4B` PHK (R269). -/
def execPhk (s : State) : Result :=
  .next (s.push8 s.pb)

/-- `$08` PHP (R270). -/
def execPhp (s : State) : Result :=
  .next (s.push8 s.p)

/-- `$68` PLA (R271). -/
def execPla (s : State) : Result :=
  .next (s.pullAcc s.mw)

/-- `$FA` PLX (R272). -/
def execPlx (s : State) : Result :=
  .next (s.pullX s.xw)

/-- `$7A` PLY (R273). -/
def execPly (s : State) : Result :=
  .next (s.pullY s.xw)

/-- `$AB` PLB (R274). -/
def execPlb (s : State) : Result :=
  .next (State.setNZ { s.pulled with db := s.pull8 } (s.pull8.setWidth 16) .byte)

/-- `$2B` PLD (R275). -/
def execPld (s : State) : Result :=
  .next (State.setNZ { s.pulled.pulled with d := s.pull16 } s.pull16 .word)

/-- `$28` PLP (R276). -/
def execPlp (s : State) : Result :=
  .next (s.pulled.setP s.pull8)

/-- `$F4` PEA #16 (R277). -/
def execPea (imm : Word) (s : State) : Result :=
  .next (s.push16 imm)

/-- `$D4` PEI (d) (R278). -/
def execPei (d : Byte) (s : State) : Result :=
  .next (s.push16 (memWord0 s.mem (s.directPage d)))

/-- `$62` PER rl (R279). -/
def execPer (rel : Word) (s : State) : Result :=
  .next (s.push16 (s.relLongTarget rel))

end Sys2Proof.Machine
end

