-- ==== Sys2Proof/Machine/System.lean ====
section
/-! DEFINITION. Status flags, mode exchange, no-operations, wait and stop, block moves (`46_status_system_block.md`). -/

namespace Sys2Proof.Machine

/-- `XCE` (R345): exchange C and E; a new E = 1 forces M, X, the index high bytes and `SH`. -/
def State.exchangeCE (s : State) : State :=
  let p := putFlag s.p .c s.e
  if s.flag .c then
    { s with
      e := true
      p := putFlag (putFlag p .m true) .x true
      x := trunc .byte s.x
      y := trunc .byte s.y
      sp := word16 (lowByte s.sp) 0x01 }
  else { s with e := false, p := p }

/-- `BlockMoveStep(delta)` (R351): one byte, and `PC` back on the opcode until the count runs out. -/
def State.blockMove (s : State) (dst src : Byte) (delta : Word) : State :=
  { s with
    db := dst
    mem := memPutByte s.mem (addr24 dst s.y) (memByte s.mem (addr24 src s.x))
    x := trunc s.xw (s.x + delta)
    y := trunc s.xw (s.y + delta)
    c := s.c - 1
    pc := if s.c - 1 = 0xFFFF then s.pc else s.pc - 3 }

/-- `WDM` (R347): with `$42` in K a two-byte no-operation, otherwise the unknown-opcode report of R440, the opcode
byte being the one before `PC`. -/
def State.reservedOpcode (s : State) : State :=
  if s.config.knows 0x42 then s else s.reportUnknown 0x42 (s.pc - 1)

/-- `$18` CLC (R330). -/
def execClc (s : State) : Result :=
  .next (s.setFlag .c false)

/-- `$38` SEC (R331). -/
def execSec (s : State) : Result :=
  .next (s.setFlag .c true)

/-- `$58` CLI (R332). -/
def execCli (s : State) : Result :=
  .next (s.setFlag .i false)

/-- `$78` SEI (R333). -/
def execSei (s : State) : Result :=
  .next (s.setFlag .i true)

/-- `$D8` CLD (R334). -/
def execCld (s : State) : Result :=
  .next (s.setFlag .d false)

/-- `$F8` SED (R335). -/
def execSed (s : State) : Result :=
  .next (s.setFlag .d true)

/-- `$B8` CLV (R336). -/
def execClv (s : State) : Result :=
  .next (s.setFlag .v false)

/-- `$C2` REP #8 (R337). -/
def execRep (imm : Byte) (s : State) : Result :=
  .next (s.setP (s.p &&& ~~~imm))

/-- `$E2` SEP #8 (R338). -/
def execSep (imm : Byte) (s : State) : Result :=
  .next (s.setP (s.p ||| imm))

/-- `$FB` XCE (R345). -/
def execXce (s : State) : Result :=
  .next s.exchangeCE

/-- `$EA` NOP (R346). -/
def execNop (s : State) : Result :=
  .next s

/-- `$42` WDM rsvd (R347). -/
def execWdm (_operand : Option Byte) (s : State) : Result :=
  .next s.reservedOpcode

/-- `$CB` WAI (R348). -/
def execWai (s : State) : Result :=
  .next { s with run := .waiting }

/-- `$DB` STP (R349). -/
def execStp (s : State) : Result :=
  .next { s with run := .stopped }

/-- `$54` MVN xyc (R352). -/
def execMvn (dst : Byte) (src : Byte) (s : State) : Result :=
  .next (s.blockMove dst src 1)

/-- `$44` MVP xyc (R353). -/
def execMvp (dst : Byte) (src : Byte) (s : State) : Result :=
  .next (s.blockMove dst src (-1))

end Sys2Proof.Machine
end

