-- ==== Sys2Proof/Machine/Dispatch.lean ====
section
/-! DEFINITION. `ExecuteInstruction` (R431): one arm per constructor of `Instr`. -/

namespace Sys2Proof.Machine

def exec (i : Instr) (s : State) : Host.Outcome State Fault Refusal :=
  match i with
  | .brk imm => Sys2Proof.Machine.execBrk imm s
  | .oraDpIndX d => Sys2Proof.Machine.execOraDpIndX d s
  | .cop imm => Sys2Proof.Machine.execCop imm s
  | .oraSr d => Sys2Proof.Machine.execOraSr d s
  | .tsbDp d => Sys2Proof.Machine.execTsbDp d s
  | .oraDp d => Sys2Proof.Machine.execOraDp d s
  | .aslDp d => Sys2Proof.Machine.execAslDp d s
  | .oraDpIndLong d => Sys2Proof.Machine.execOraDpIndLong d s
  | .php => Sys2Proof.Machine.execPhp s
  | .oraImm imm => Sys2Proof.Machine.execOraImm imm s
  | .aslAcc => Sys2Proof.Machine.execAslAcc s
  | .phd => Sys2Proof.Machine.execPhd s
  | .tsbAbs a => Sys2Proof.Machine.execTsbAbs a s
  | .oraAbs a => Sys2Proof.Machine.execOraAbs a s
  | .aslAbs a => Sys2Proof.Machine.execAslAbs a s
  | .oraLong al => Sys2Proof.Machine.execOraLong al s
  | .bpl rel => Sys2Proof.Machine.execBpl rel s
  | .oraDpIndY d => Sys2Proof.Machine.execOraDpIndY d s
  | .oraDpInd d => Sys2Proof.Machine.execOraDpInd d s
  | .oraSrIndY d => Sys2Proof.Machine.execOraSrIndY d s
  | .trbDp d => Sys2Proof.Machine.execTrbDp d s
  | .oraDpX d => Sys2Proof.Machine.execOraDpX d s
  | .aslDpX d => Sys2Proof.Machine.execAslDpX d s
  | .oraDpIndLongY d => Sys2Proof.Machine.execOraDpIndLongY d s
  | .clc => Sys2Proof.Machine.execClc s
  | .oraAbsY a => Sys2Proof.Machine.execOraAbsY a s
  | .incAcc => Sys2Proof.Machine.execIncAcc s
  | .tcs => Sys2Proof.Machine.execTcs s
  | .trbAbs a => Sys2Proof.Machine.execTrbAbs a s
  | .oraAbsX a => Sys2Proof.Machine.execOraAbsX a s
  | .aslAbsX a => Sys2Proof.Machine.execAslAbsX a s
  | .oraLongX al => Sys2Proof.Machine.execOraLongX al s
  | .jsrAbs a => Sys2Proof.Machine.execJsrAbs a s
  | .andDpIndX d => Sys2Proof.Machine.execAndDpIndX d s
  | .jsl al => Sys2Proof.Machine.execJsl al s
  | .andSr d => Sys2Proof.Machine.execAndSr d s
  | .bitDp d => Sys2Proof.Machine.execBitDp d s
  | .andDp d => Sys2Proof.Machine.execAndDp d s
  | .rolDp d => Sys2Proof.Machine.execRolDp d s
  | .andDpIndLong d => Sys2Proof.Machine.execAndDpIndLong d s
  | .plp => Sys2Proof.Machine.execPlp s
  | .andImm imm => Sys2Proof.Machine.execAndImm imm s
  | .rolAcc => Sys2Proof.Machine.execRolAcc s
  | .pld => Sys2Proof.Machine.execPld s
  | .bitAbs a => Sys2Proof.Machine.execBitAbs a s
  | .andAbs a => Sys2Proof.Machine.execAndAbs a s
  | .rolAbs a => Sys2Proof.Machine.execRolAbs a s
  | .andLong al => Sys2Proof.Machine.execAndLong al s
  | .bmi rel => Sys2Proof.Machine.execBmi rel s
  | .andDpIndY d => Sys2Proof.Machine.execAndDpIndY d s
  | .andDpInd d => Sys2Proof.Machine.execAndDpInd d s
  | .andSrIndY d => Sys2Proof.Machine.execAndSrIndY d s
  | .bitDpX d => Sys2Proof.Machine.execBitDpX d s
  | .andDpX d => Sys2Proof.Machine.execAndDpX d s
  | .rolDpX d => Sys2Proof.Machine.execRolDpX d s
  | .andDpIndLongY d => Sys2Proof.Machine.execAndDpIndLongY d s
  | .sec => Sys2Proof.Machine.execSec s
  | .andAbsY a => Sys2Proof.Machine.execAndAbsY a s
  | .decAcc => Sys2Proof.Machine.execDecAcc s
  | .tsc => Sys2Proof.Machine.execTsc s
  | .bitAbsX a => Sys2Proof.Machine.execBitAbsX a s
  | .andAbsX a => Sys2Proof.Machine.execAndAbsX a s
  | .rolAbsX a => Sys2Proof.Machine.execRolAbsX a s
  | .andLongX al => Sys2Proof.Machine.execAndLongX al s
  | .rti => Sys2Proof.Machine.execRti s
  | .eorDpIndX d => Sys2Proof.Machine.execEorDpIndX d s
  | .wdm operand => Sys2Proof.Machine.execWdm operand s
  | .eorSr d => Sys2Proof.Machine.execEorSr d s
  | .mvp dst src => Sys2Proof.Machine.execMvp dst src s
  | .eorDp d => Sys2Proof.Machine.execEorDp d s
  | .lsrDp d => Sys2Proof.Machine.execLsrDp d s
  | .eorDpIndLong d => Sys2Proof.Machine.execEorDpIndLong d s
  | .pha => Sys2Proof.Machine.execPha s
  | .eorImm imm => Sys2Proof.Machine.execEorImm imm s
  | .lsrAcc => Sys2Proof.Machine.execLsrAcc s
  | .phk => Sys2Proof.Machine.execPhk s
  | .jmpAbs a => Sys2Proof.Machine.execJmpAbs a s
  | .eorAbs a => Sys2Proof.Machine.execEorAbs a s
  | .lsrAbs a => Sys2Proof.Machine.execLsrAbs a s
  | .eorLong al => Sys2Proof.Machine.execEorLong al s
  | .bvc rel => Sys2Proof.Machine.execBvc rel s
  | .eorDpIndY d => Sys2Proof.Machine.execEorDpIndY d s
  | .eorDpInd d => Sys2Proof.Machine.execEorDpInd d s
  | .eorSrIndY d => Sys2Proof.Machine.execEorSrIndY d s
  | .mvn dst src => Sys2Proof.Machine.execMvn dst src s
  | .eorDpX d => Sys2Proof.Machine.execEorDpX d s
  | .lsrDpX d => Sys2Proof.Machine.execLsrDpX d s
  | .eorDpIndLongY d => Sys2Proof.Machine.execEorDpIndLongY d s
  | .cli => Sys2Proof.Machine.execCli s
  | .eorAbsY a => Sys2Proof.Machine.execEorAbsY a s
  | .phy => Sys2Proof.Machine.execPhy s
  | .tcd => Sys2Proof.Machine.execTcd s
  | .jmlLong al => Sys2Proof.Machine.execJmlLong al s
  | .eorAbsX a => Sys2Proof.Machine.execEorAbsX a s
  | .lsrAbsX a => Sys2Proof.Machine.execLsrAbsX a s
  | .eorLongX al => Sys2Proof.Machine.execEorLongX al s
  | .rts => Sys2Proof.Machine.execRts s
  | .adcDpIndX d => Sys2Proof.Machine.execAdcDpIndX d s
  | .per rel => Sys2Proof.Machine.execPer rel s
  | .adcSr d => Sys2Proof.Machine.execAdcSr d s
  | .stzDp d => Sys2Proof.Machine.execStzDp d s
  | .adcDp d => Sys2Proof.Machine.execAdcDp d s
  | .rorDp d => Sys2Proof.Machine.execRorDp d s
  | .adcDpIndLong d => Sys2Proof.Machine.execAdcDpIndLong d s
  | .pla => Sys2Proof.Machine.execPla s
  | .adcImm imm => Sys2Proof.Machine.execAdcImm imm s
  | .rorAcc => Sys2Proof.Machine.execRorAcc s
  | .rtl => Sys2Proof.Machine.execRtl s
  | .jmpInd a => Sys2Proof.Machine.execJmpInd a s
  | .adcAbs a => Sys2Proof.Machine.execAdcAbs a s
  | .rorAbs a => Sys2Proof.Machine.execRorAbs a s
  | .adcLong al => Sys2Proof.Machine.execAdcLong al s
  | .bvs rel => Sys2Proof.Machine.execBvs rel s
  | .adcDpIndY d => Sys2Proof.Machine.execAdcDpIndY d s
  | .adcDpInd d => Sys2Proof.Machine.execAdcDpInd d s
  | .adcSrIndY d => Sys2Proof.Machine.execAdcSrIndY d s
  | .stzDpX d => Sys2Proof.Machine.execStzDpX d s
  | .adcDpX d => Sys2Proof.Machine.execAdcDpX d s
  | .rorDpX d => Sys2Proof.Machine.execRorDpX d s
  | .adcDpIndLongY d => Sys2Proof.Machine.execAdcDpIndLongY d s
  | .sei => Sys2Proof.Machine.execSei s
  | .adcAbsY a => Sys2Proof.Machine.execAdcAbsY a s
  | .ply => Sys2Proof.Machine.execPly s
  | .tdc => Sys2Proof.Machine.execTdc s
  | .jmpIndX a => Sys2Proof.Machine.execJmpIndX a s
  | .adcAbsX a => Sys2Proof.Machine.execAdcAbsX a s
  | .rorAbsX a => Sys2Proof.Machine.execRorAbsX a s
  | .adcLongX al => Sys2Proof.Machine.execAdcLongX al s
  | .bra rel => Sys2Proof.Machine.execBra rel s
  | .staDpIndX d => Sys2Proof.Machine.execStaDpIndX d s
  | .brl rel => Sys2Proof.Machine.execBrl rel s
  | .staSr d => Sys2Proof.Machine.execStaSr d s
  | .styDp d => Sys2Proof.Machine.execStyDp d s
  | .staDp d => Sys2Proof.Machine.execStaDp d s
  | .stxDp d => Sys2Proof.Machine.execStxDp d s
  | .staDpIndLong d => Sys2Proof.Machine.execStaDpIndLong d s
  | .dey => Sys2Proof.Machine.execDey s
  | .bitImm imm => Sys2Proof.Machine.execBitImm imm s
  | .txa => Sys2Proof.Machine.execTxa s
  | .phb => Sys2Proof.Machine.execPhb s
  | .styAbs a => Sys2Proof.Machine.execStyAbs a s
  | .staAbs a => Sys2Proof.Machine.execStaAbs a s
  | .stxAbs a => Sys2Proof.Machine.execStxAbs a s
  | .staLong al => Sys2Proof.Machine.execStaLong al s
  | .bcc rel => Sys2Proof.Machine.execBcc rel s
  | .staDpIndY d => Sys2Proof.Machine.execStaDpIndY d s
  | .staDpInd d => Sys2Proof.Machine.execStaDpInd d s
  | .staSrIndY d => Sys2Proof.Machine.execStaSrIndY d s
  | .styDpX d => Sys2Proof.Machine.execStyDpX d s
  | .staDpX d => Sys2Proof.Machine.execStaDpX d s
  | .stxDpY d => Sys2Proof.Machine.execStxDpY d s
  | .staDpIndLongY d => Sys2Proof.Machine.execStaDpIndLongY d s
  | .tya => Sys2Proof.Machine.execTya s
  | .staAbsY a => Sys2Proof.Machine.execStaAbsY a s
  | .txs => Sys2Proof.Machine.execTxs s
  | .txy => Sys2Proof.Machine.execTxy s
  | .stzAbs a => Sys2Proof.Machine.execStzAbs a s
  | .staAbsX a => Sys2Proof.Machine.execStaAbsX a s
  | .stzAbsX a => Sys2Proof.Machine.execStzAbsX a s
  | .staLongX al => Sys2Proof.Machine.execStaLongX al s
  | .ldyImm imm => Sys2Proof.Machine.execLdyImm imm s
  | .ldaDpIndX d => Sys2Proof.Machine.execLdaDpIndX d s
  | .ldxImm imm => Sys2Proof.Machine.execLdxImm imm s
  | .ldaSr d => Sys2Proof.Machine.execLdaSr d s
  | .ldyDp d => Sys2Proof.Machine.execLdyDp d s
  | .ldaDp d => Sys2Proof.Machine.execLdaDp d s
  | .ldxDp d => Sys2Proof.Machine.execLdxDp d s
  | .ldaDpIndLong d => Sys2Proof.Machine.execLdaDpIndLong d s
  | .tay => Sys2Proof.Machine.execTay s
  | .ldaImm imm => Sys2Proof.Machine.execLdaImm imm s
  | .tax => Sys2Proof.Machine.execTax s
  | .plb => Sys2Proof.Machine.execPlb s
  | .ldyAbs a => Sys2Proof.Machine.execLdyAbs a s
  | .ldaAbs a => Sys2Proof.Machine.execLdaAbs a s
  | .ldxAbs a => Sys2Proof.Machine.execLdxAbs a s
  | .ldaLong al => Sys2Proof.Machine.execLdaLong al s
  | .bcs rel => Sys2Proof.Machine.execBcs rel s
  | .ldaDpIndY d => Sys2Proof.Machine.execLdaDpIndY d s
  | .ldaDpInd d => Sys2Proof.Machine.execLdaDpInd d s
  | .ldaSrIndY d => Sys2Proof.Machine.execLdaSrIndY d s
  | .ldyDpX d => Sys2Proof.Machine.execLdyDpX d s
  | .ldaDpX d => Sys2Proof.Machine.execLdaDpX d s
  | .ldxDpY d => Sys2Proof.Machine.execLdxDpY d s
  | .ldaDpIndLongY d => Sys2Proof.Machine.execLdaDpIndLongY d s
  | .clv => Sys2Proof.Machine.execClv s
  | .ldaAbsY a => Sys2Proof.Machine.execLdaAbsY a s
  | .tsx => Sys2Proof.Machine.execTsx s
  | .tyx => Sys2Proof.Machine.execTyx s
  | .ldyAbsX a => Sys2Proof.Machine.execLdyAbsX a s
  | .ldaAbsX a => Sys2Proof.Machine.execLdaAbsX a s
  | .ldxAbsY a => Sys2Proof.Machine.execLdxAbsY a s
  | .ldaLongX al => Sys2Proof.Machine.execLdaLongX al s
  | .cpyImm imm => Sys2Proof.Machine.execCpyImm imm s
  | .cmpDpIndX d => Sys2Proof.Machine.execCmpDpIndX d s
  | .rep imm => Sys2Proof.Machine.execRep imm s
  | .cmpSr d => Sys2Proof.Machine.execCmpSr d s
  | .cpyDp d => Sys2Proof.Machine.execCpyDp d s
  | .cmpDp d => Sys2Proof.Machine.execCmpDp d s
  | .decDp d => Sys2Proof.Machine.execDecDp d s
  | .cmpDpIndLong d => Sys2Proof.Machine.execCmpDpIndLong d s
  | .iny => Sys2Proof.Machine.execIny s
  | .cmpImm imm => Sys2Proof.Machine.execCmpImm imm s
  | .dex => Sys2Proof.Machine.execDex s
  | .wai => Sys2Proof.Machine.execWai s
  | .cpyAbs a => Sys2Proof.Machine.execCpyAbs a s
  | .cmpAbs a => Sys2Proof.Machine.execCmpAbs a s
  | .decAbs a => Sys2Proof.Machine.execDecAbs a s
  | .cmpLong al => Sys2Proof.Machine.execCmpLong al s
  | .bne rel => Sys2Proof.Machine.execBne rel s
  | .cmpDpIndY d => Sys2Proof.Machine.execCmpDpIndY d s
  | .cmpDpInd d => Sys2Proof.Machine.execCmpDpInd d s
  | .cmpSrIndY d => Sys2Proof.Machine.execCmpSrIndY d s
  | .pei d => Sys2Proof.Machine.execPei d s
  | .cmpDpX d => Sys2Proof.Machine.execCmpDpX d s
  | .decDpX d => Sys2Proof.Machine.execDecDpX d s
  | .cmpDpIndLongY d => Sys2Proof.Machine.execCmpDpIndLongY d s
  | .cld => Sys2Proof.Machine.execCld s
  | .cmpAbsY a => Sys2Proof.Machine.execCmpAbsY a s
  | .phx => Sys2Proof.Machine.execPhx s
  | .stp => Sys2Proof.Machine.execStp s
  | .jmlIndLong a => Sys2Proof.Machine.execJmlIndLong a s
  | .cmpAbsX a => Sys2Proof.Machine.execCmpAbsX a s
  | .decAbsX a => Sys2Proof.Machine.execDecAbsX a s
  | .cmpLongX al => Sys2Proof.Machine.execCmpLongX al s
  | .cpxImm imm => Sys2Proof.Machine.execCpxImm imm s
  | .sbcDpIndX d => Sys2Proof.Machine.execSbcDpIndX d s
  | .sep imm => Sys2Proof.Machine.execSep imm s
  | .sbcSr d => Sys2Proof.Machine.execSbcSr d s
  | .cpxDp d => Sys2Proof.Machine.execCpxDp d s
  | .sbcDp d => Sys2Proof.Machine.execSbcDp d s
  | .incDp d => Sys2Proof.Machine.execIncDp d s
  | .sbcDpIndLong d => Sys2Proof.Machine.execSbcDpIndLong d s
  | .inx => Sys2Proof.Machine.execInx s
  | .sbcImm imm => Sys2Proof.Machine.execSbcImm imm s
  | .nop => Sys2Proof.Machine.execNop s
  | .xba => Sys2Proof.Machine.execXba s
  | .cpxAbs a => Sys2Proof.Machine.execCpxAbs a s
  | .sbcAbs a => Sys2Proof.Machine.execSbcAbs a s
  | .incAbs a => Sys2Proof.Machine.execIncAbs a s
  | .sbcLong al => Sys2Proof.Machine.execSbcLong al s
  | .beq rel => Sys2Proof.Machine.execBeq rel s
  | .sbcDpIndY d => Sys2Proof.Machine.execSbcDpIndY d s
  | .sbcDpInd d => Sys2Proof.Machine.execSbcDpInd d s
  | .sbcSrIndY d => Sys2Proof.Machine.execSbcSrIndY d s
  | .pea imm => Sys2Proof.Machine.execPea imm s
  | .sbcDpX d => Sys2Proof.Machine.execSbcDpX d s
  | .incDpX d => Sys2Proof.Machine.execIncDpX d s
  | .sbcDpIndLongY d => Sys2Proof.Machine.execSbcDpIndLongY d s
  | .sed => Sys2Proof.Machine.execSed s
  | .sbcAbsY a => Sys2Proof.Machine.execSbcAbsY a s
  | .plx => Sys2Proof.Machine.execPlx s
  | .xce => Sys2Proof.Machine.execXce s
  | .jsrIndX a => Sys2Proof.Machine.execJsrIndX a s
  | .sbcAbsX a => Sys2Proof.Machine.execSbcAbsX a s
  | .incAbsX a => Sys2Proof.Machine.execIncAbsX a s
  | .sbcLongX al => Sys2Proof.Machine.execSbcLongX al s

end Sys2Proof.Machine
end

