-- ==== Sys2Proof/Machine/Dsp.lean ====
section
/-! DEFINITION. The DSP (`48_dsp.md`): its registers, key-on and key-off, sample decode, pitch stepping, envelope,
mixing, and the ring buffer. -/

namespace Sys2Proof.Machine

/-- Apply a function `n` times. -/
def applyTimes {α : Type} (f : α → α) : Nat → α → α
  | 0, a => a
  | n + 1, a => applyTimes f n (f a)

/-- `clamp(x, lo, hi)`. -/
def clampInt (lo hi x : Int) : Int := max lo (min x hi)

/-- `clamp` to a signed 16-bit value (R410, R415). -/
def clamp16 (x : Int) : Int := clampInt (-32768) 32767 x

/-- Channel `v` (R34). -/
def Dsp.channel (d : Dsp) (v : Fin 8) : Channel := d.channels[v]

/-- Replace channel `v`. -/
def Dsp.setChannel (d : Dsp) (v : Fin 8) (ch : Channel) : Dsp :=
  { d with channels := d.channels.set v.val ch v.isLt }

/-- `dsp.regs[a]` as it is stored (R402). -/
def Dsp.reg (d : Dsp) (a : BitVec 7) : Byte := d.regs[a.toNat]'(a.isLt)

/-- `dsp.regs[a] <- val` (R403). -/
def Dsp.setReg (d : Dsp) (a : BitVec 7) (val : Byte) : Dsp := { d with regs := d.regs.set a.toNat val a.isLt }

/-- A byte with bit `k` replaced. -/
def putBit (v : Byte) (k : Nat) (b : Bool) : Byte := if b then v ||| (1#8 <<< k) else v &&& ~~~(1#8 <<< k)

/-- The address of entry `n` of the sample directory: `DIR * $100 + 4n` (R407). -/
def Dsp.dirEntry (d : Dsp) (n : Byte) : Word := word16 0 (d.reg 0x5D) + 4 * n.setWidth 16

/-- `DirStart(n)` (R407). -/
def Dsp.dirStart (d : Dsp) (aram : Memory) (n : Byte) : Word := aramWord aram (d.dirEntry n)

/-- `DirLoop(n)` (R407). -/
def Dsp.dirLoop (d : Dsp) (aram : Memory) (n : Byte) : Word := aramWord aram (d.dirEntry n + 2)

/-- `KeyOn(v)` (R405). -/
def Dsp.keyOn (aram : Memory) (d : Dsp) (v : Fin 8) : Dsp :=
  let ch := d.channel v
  let d := d.setChannel v
    { ch with
      keyOn := true
      phase := .attack
      env := 0
      brrAddr := d.dirStart aram ch.srcn
      brrPos := 0
      p1 := 0
      p2 := 0
      frac := 0 }
  { d with endx := putBit d.endx v.val false }

/-- `KeyOff(v)` (R406). -/
def Dsp.keyOff (d : Dsp) (v : Fin 8) : Dsp := d.setChannel v { d.channel v with phase := .release }

/-- Apply a function to every channel whose bit is set in `val`. -/
def forSetBits (f : Dsp → Fin 8 → Dsp) (val : Byte) (d : Dsp) : Dsp :=
  (List.finRange 8).foldl (fun d v => if val.getLsbD v.val then f d v else d) d

/-- The soft reset of FLG bit 7 on one channel (R402). -/
def Dsp.softReset (d : Dsp) (v : Fin 8) : Dsp :=
  d.setChannel v { d.channel v with phase := .release, env := 0 }

/-- The field that a write to register `k` of a channel updates (R402). -/
def writeChannelReg (k : Nat) (val : Byte) (ch : Channel) : Channel :=
  match k with
  | 0 => { ch with volL := val }
  | 1 => { ch with volR := val }
  | 2 => { ch with pitch := ch.pitch.extractLsb' 8 6 ++ val }
  | 3 => { ch with pitch := val.extractLsb' 0 6 ++ ch.pitch.extractLsb' 0 8 }
  | 4 => { ch with srcn := val }
  | 5 => { ch with adsr1 := val }
  | 6 => { ch with adsr2 := val }
  | 7 => { ch with gain := val }
  | _ => ch

/-- The channel a register address belongs to: its high digit (R402). -/
def dspChannelOf (a : BitVec 7) : Fin 8 := ⟨a.toNat / 16, by have := a.isLt; omega⟩

/-- `DspWrite(a, val)` (R403): the register, then the field update of R402. -/
def Dsp.write (aram : Memory) (d : Dsp) (a : BitVec 7) (val : Byte) : Dsp :=
  let d := d.setReg a val
  let v := dspChannelOf a
  if a = 0x4C then forSetBits (Dsp.keyOn aram) val d
  else if a = 0x5C then forSetBits Dsp.keyOff val d
  else if a = 0x6C then if val.getLsbD 7 then forSetBits Dsp.softReset 0xFF d else d
  else if a = 0x7C then { d with endx := 0 }
  else d.setChannel v (writeChannelReg (a.toNat % 16) val (d.channel v))

/-- ENVX: `ch[v].env >> 4` (R402). -/
def Channel.envx (ch : Channel) : Byte := (ch.env >>> 4).setWidth 8

/-- `DspRead(a)` (R404): the stored register, but ENVX, OUTX and ENDX are live. -/
def Dsp.read (d : Dsp) (a : BitVec 7) : Byte :=
  if a = 0x7C then d.endx
  else if a.toNat % 16 = 8 then (d.channel (dspChannelOf a)).envx
  else if a.toNat % 16 = 9 then (d.channel (dspChannelOf a)).outx
  else d.reg a

/-- The residual before filtering (R410): shifts 13 to 15 give -2048 or 0. -/
def brrResidual (shift : Nat) (nib : BitVec 4) : Int :=
  if shift ≤ 12 then nib.toInt * 2 ^ shift / 2 else if nib.toInt < 0 then -2048 else 0

/-- The filter of a block (R410); `/` on integers is floor division here. -/
def brrFilter (filter : Nat) (s p1 p2 : Int) : Int :=
  match filter with
  | 0 => s
  | 1 => s + p1 - p1 / 16
  | 2 => s + 2 * p1 - 3 * p1 / 32 - p2 + p2 / 16
  | _ => s + 2 * p1 - 13 * p1 / 64 - p2 + 3 * p2 / 16

/-- One decoded sample: residual, filter, clamp, and the wrap to 15 bits (R410). -/
def brrSample (header : Byte) (nib : BitVec 4) (p1 p2 : Word) : Word :=
  let s := brrResidual (header.toNat / 16) nib
  let s := clamp16 (brrFilter (header.toNat / 4 % 4) s p1.toInt p2.toInt)
  BitVec.ofInt 16 ((BitVec.ofInt 16 (2 * s)).toInt / 2)

/-- The header byte of the channel's current block (R410). -/
def Channel.header (aram : Memory) (ch : Channel) : Byte := aramByte aram ch.brrAddr

/-- The residual `brr_pos` of the current block: high nibble first (R410). -/
def Channel.nibble (aram : Memory) (ch : Channel) : BitVec 4 :=
  let byte := aramByte aram (ch.brrAddr + 1 + BitVec.ofNat 16 (ch.brrPos.toNat / 2))
  if ch.brrPos.getLsbD 0 then byte.extractLsb' 0 4 else byte.extractLsb' 4 4

/-- Decode the next residual of the current block into `p1`, `p2` (R410). -/
def Channel.decodeNext (aram : Memory) (ch : Channel) : Channel :=
  { ch with p1 := brrSample (ch.header aram) (ch.nibble aram) ch.p1 ch.p2, p2 := ch.p1 }

/-- `EndOfBlock()` (R412). -/
def Dsp.endOfBlock (aram : Memory) (v : Fin 8) (d : Dsp) : Dsp :=
  let ch := d.channel v
  let h := ch.header aram
  if h.getLsbD 0 then
    let d := { d with endx := putBit d.endx v.val true }
    if h.getLsbD 1 then d.setChannel v { ch with brrPos := 0, brrAddr := d.dirLoop aram ch.srcn }
    else d.setChannel v { ch with brrPos := 0, keyOn := false, env := 0, phase := .release }
  else d.setChannel v { ch with brrPos := 0, brrAddr := ch.brrAddr + 9 }

/-- One turn of the loop of R411: decode a residual, move on, and end the block after the sixteenth. -/
def Dsp.sourceStep (aram : Memory) (v : Fin 8) (d : Dsp) : Dsp :=
  let ch := (d.channel v).decodeNext aram
  if ch.brrPos = 15 then (d.setChannel v ch).endOfBlock aram v
  else d.setChannel v { ch with brrPos := ch.brrPos + 1 }

/-- `PitchStep(v)` (R411): as many source samples as `frac + pitch` holds units of $1000. -/
def Dsp.pitchStep (aram : Memory) (v : Fin 8) (d : Dsp) : Dsp :=
  let total := (d.channel v).frac.toNat + (d.channel v).pitch.toNat
  let d := applyTimes (Dsp.sourceStep aram v) (total / 0x1000) d
  d.setChannel v { d.channel v with frac := BitVec.ofNat 16 (total % 0x1000) }

/-- The exponential decrease `env - (((env - 1) >> 8) + 1)` (R413). -/
def expDecrease (env : Int) : Int := env - ((env - 1) / 256 + 1)

/-- An envelope level from an integer, clamped to 0..$7FF (R413). -/
def envLevel (env : Int) : BitVec 11 := BitVec.ofInt 11 (clampInt 0 0x7FF env)

/-- The release phase (R413): silence ends the note. -/
def Channel.release (ch : Channel) : Channel :=
  let env := (ch.env.toNat : Int) - 8
  if env ≤ 0 then { ch with env := 0, keyOn := false } else { ch with env := envLevel env }

/-- The attack phase at output sample `n` (R413). -/
def Channel.attack (n : Nat) (ch : Channel) : Channel :=
  let r := 2 * (ch.adsr1.toNat % 16) + 1
  let env : Int := ch.env.toNat
  let env := if Config.envelopeDue r n then env + (if r = 31 then 0x400 else 0x20) else env
  if env ≥ 0x7FF then { ch with env := 0x7FF, phase := .decay } else { ch with env := envLevel env }

/-- The decay phase at output sample `n` (R413). -/
def Channel.decay (n : Nat) (ch : Channel) : Channel :=
  let r := 2 * (ch.adsr1.toNat / 16 % 8) + 16
  let env : Int := ch.env.toNat
  let env := if Config.envelopeDue r n then expDecrease env else env
  { ch with
    env := envLevel env
    phase := if env / 256 ≤ (ch.adsr2.toNat / 32 : Nat) then .sustain else ch.phase }

/-- The sustain phase at output sample `n` (R413). -/
def Channel.sustain (n : Nat) (ch : Channel) : Channel :=
  let env : Int := ch.env.toNat
  { ch with env := envLevel (if Config.envelopeDue (ch.adsr2.toNat % 32) n then expDecrease env else env) }

/-- The move of a GAIN register that is not direct, when it is due (R413). -/
def gainMove (mode : Nat) (env : Int) : Int :=
  match mode with
  | 0 => env - 0x20
  | 1 => expDecrease env
  | 2 => env + 0x20
  | _ => env + (if env < 0x600 then 0x20 else 8)

/-- GAIN mode at output sample `n` (R413). -/
def Channel.gainStep (n : Nat) (ch : Channel) : Channel :=
  let env : Int := ch.env.toNat
  if ch.gain.getLsbD 7 then
    { ch with
      env := envLevel (if Config.envelopeDue (ch.gain.toNat % 32) n then gainMove (ch.gain.toNat / 32 % 4) env
        else env) }
  else { ch with env := envLevel ((ch.gain.toNat % 128 * 16 : Nat)) }

/-- `EnvelopeStep(v)` at output sample `n` (R413). -/
def Channel.envelopeStep (n : Nat) (ch : Channel) : Channel :=
  if ch.phase = .release then ch.release
  else if ch.adsr1.getLsbD 7 then
    match ch.phase with
    | .attack => ch.attack n
    | .decay => ch.decay n
    | .sustain => ch.sustain n
    | .release => ch.release
  else ch.gainStep n

/-- A channel's turn in an output sample: pitch, then envelope, if it is keyed on (R415). -/
def Dsp.advanceChannel (aram : Memory) (v : Fin 8) (d : Dsp) : Dsp :=
  if (d.channel v).keyOn then
    let d := d.pitchStep aram v
    d.setChannel v ((d.channel v).envelopeStep d.sampleNumber)
  else d

/-- `out` of a channel whose turn began keyed on or not: `(raw * env) >> 11`, or 0 (R415). -/
def channelOutput (keyedOn : Bool) (ch : Channel) : Int :=
  if keyedOn then ch.p1.toInt * (ch.env.toNat : Int) / 2048 else 0

/-- OUTX and ENVX of a channel after its turn, live and stored (R403, R415). -/
def Dsp.publish (v : Fin 8) (out : Int) (d : Dsp) : Dsp :=
  let outx := BitVec.ofInt 8 (out / 256)
  let d := d.setChannel v { d.channel v with outx := outx }
  (d.setReg (BitVec.ofNat 7 (16 * v.val + 8)) (d.channel v).envx).setReg (BitVec.ofNat 7 (16 * v.val + 9)) outx

/-- The DSP and the left and right sums while the channels are mixed (R415). -/
structure Mix where
  dsp : Dsp
  left : Int
  right : Int
  deriving DecidableEq, Repr

/-- Channel `v` added to the mix (R415). -/
def Mix.add (aram : Memory) (mix : Mix) (v : Fin 8) : Mix :=
  let keyedOn := (mix.dsp.channel v).keyOn
  let d := mix.dsp.advanceChannel aram v
  let ch := d.channel v
  let out := channelOutput keyedOn ch
  { dsp := d.publish v out
    left := clamp16 (mix.left + out * ch.volL.toInt / 128)
    right := clamp16 (mix.right + out * ch.volR.toInt / 128) }

/-- The master volume on one side, and the mute bit of FLG (R415). -/
def Dsp.master (d : Dsp) (volume : Byte) (sum : Int) : Word :=
  if (d.reg 0x6C).getLsbD 6 then 0 else BitVec.ofInt 16 (clamp16 (sum * volume.toInt / 128))

/-- `ProduceSample()` (R415): the DSP after it and the stereo sample. -/
def Dsp.produceSample (aram : Memory) (d : Dsp) : Dsp × Sample :=
  let mix := (List.finRange 8).foldl (Mix.add aram) { dsp := d, left := 0, right := 0 }
  let d := mix.dsp
  ({ d with sampleNumber := d.sampleNumber + 1 },
    { left := d.master (d.reg 0x0C) mix.left, right := d.master (d.reg 0x1C) mix.right })

/-- `DspTick()` (R416). -/
def Dsp.tick (cfg : Config) (aram : Memory) (d : Dsp) : Dsp :=
  let count := d.stepCount + 1
  if count ≥ cfg.stepsPerSample then
    let r := { d with stepCount := 0 }.produceSample aram
    { r.1 with
      ring := ringPut r.1.ring d.writeCursor r.2
      writeCursor := (d.writeCursor + 1) % cfg.ringSize }
  else { d with stepCount := count }

/-- `ResetSampleBuffer()` (R420): cursors and step count to 0, every ring entry silent. -/
def Dsp.resetSampleBuffer (d : Dsp) : Dsp :=
  { d with ring := [], writeCursor := 0, frameBoundary := 0, stepCount := 0 }

/-- `NewFrame()` (R420). -/
def Dsp.newFrame (d : Dsp) : Dsp := { d with frameBoundary := d.writeCursor }

end Sys2Proof.Machine
end

