-- ==== Sys2Proof/Machine/Coprocessor.lean ====
section
/-! DEFINITION. The audio coprocessor (`47_apu_spc700.md`): its memory accesses with the I/O page, the timers, one
`Cycle()`, and the upload of ARAM blocks. -/

namespace Sys2Proof.Machine

/-- Timer `t` (R370). -/
def Apu.timer (apu : Apu) (t : Fin 3) : Timer := apu.timers[t]

/-- Replace timer `t`. -/
def Apu.setTimer (apu : Apu) (t : Fin 3) (timer : Timer) : Apu :=
  { apu with timers := apu.timers.set t.val timer t.isLt }

/-- A write of `in_ports[i]` (R382). -/
def Apu.setInPort (apu : Apu) (i : Fin 4) (v : Byte) : Apu := { apu with inPorts := apu.inPorts.set i.val v i.isLt }

/-- A write of `out_ports[i]` (R381). -/
def Apu.setOutPort (apu : Apu) (i : Fin 4) (v : Byte) : Apu :=
  { apu with outPorts := apu.outPorts.set i.val v i.isLt }

/-- What a CONTROL bit does to its timer: enabling a stopped one clears its counter and output (R372). -/
def Timer.control (timer : Timer) (on : Bool) : Timer :=
  if on && !timer.enabled then { timer with enabled := true, counter := 0, out := 0 }
  else { timer with enabled := on }

/-- A write of CONTROL (R372): bits 2..0 the timers, bit 4 clears ports 0 and 1, bit 5 ports 2 and 3. -/
def Apu.writeControl (apu : Apu) (v : Byte) : Apu :=
  { apu with
    timers := Vector.ofFn (fun t => (apu.timer t).control (v.getLsbD t.val))
    inPorts := Vector.ofFn (fun i => if v.getLsbD (if i.val < 2 then 4 else 5) then 0 else apu.inPorts[i]) }

/-- `ApuWrite(a, v)` (R363, R372). -/
def Apu.write (apu : Apu) (a : Word) (v : Byte) : Apu :=
  if a = 0xF0 then apu
  else if a = 0xF1 then apu.writeControl v
  else if a = 0xF2 then { apu with dspAddr := v }
  else if a = 0xF3 then
    if apu.dspAddr < 0x80 then { apu with dsp := apu.dsp.write apu.aram (apu.dspAddr.setWidth 7) v } else apu
  else if a = 0xF4 then apu.setOutPort 0 v
  else if a = 0xF5 then apu.setOutPort 1 v
  else if a = 0xF6 then apu.setOutPort 2 v
  else if a = 0xF7 then apu.setOutPort 3 v
  else if a = 0xFA then apu.setTimer 0 { apu.timer 0 with target := v }
  else if a = 0xFB then apu.setTimer 1 { apu.timer 1 with target := v }
  else if a = 0xFC then apu.setTimer 2 { apu.timer 2 with target := v }
  else if a = 0xFD ∨ a = 0xFE ∨ a = 0xFF then apu
  else { apu with aram := aramPutByte apu.aram a v }

/-- Reading `T<t>OUT`: the output counter, which the read clears (R372). -/
def Apu.readTimerOut (apu : Apu) (t : Fin 3) : Byte × Apu :=
  ((apu.timer t).out.setWidth 8, apu.setTimer t { apu.timer t with out := 0 })

/-- `ApuRead(a)` (R363, R372): the byte, and the APU after the read. -/
def Apu.read (apu : Apu) (a : Word) : Byte × Apu :=
  if a = 0xF0 ∨ a = 0xF1 then (0, apu)
  else if a = 0xF2 then (apu.dspAddr, apu)
  else if a = 0xF3 then (apu.dsp.read (apu.dspAddr.setWidth 7), apu)
  else if a = 0xF4 then (apu.inPorts[0], apu)
  else if a = 0xF5 then (apu.inPorts[1], apu)
  else if a = 0xF6 then (apu.inPorts[2], apu)
  else if a = 0xF7 then (apu.inPorts[3], apu)
  else if a = 0xFA ∨ a = 0xFB ∨ a = 0xFC then (0, apu)
  else if a = 0xFD then apu.readTimerOut 0
  else if a = 0xFE then apu.readTimerOut 1
  else if a = 0xFF then apu.readTimerOut 2
  else (aramByte apu.aram a, apu)

/-- The rest of an SPC700 instruction: its reads and writes in order, then its registers (R365 item 2). -/
def Apu.perform : Spc700Action → Apu → Apu
  | .done regs, apu => { apu with regs := regs }
  | .read a next, apu => Apu.perform (next (apu.read a).1) (apu.read a).2
  | .write a v next, apu => Apu.perform next (apu.write a v)

/-- `Spc700Exec()` (R365): fetch the opcode with `ApuRead`, then what the open parameter says of it. An opcode it
does not know is reported and skipped, one byte (R365 item 3; log entry 8). -/
def Apu.spc700Exec (apu : Apu) : Apu :=
  let opPc := apu.regs.pc
  let fetched := apu.read opPc
  let op := fetched.1
  let apu := { fetched.2 with regs := { fetched.2.regs with pc := opPc + 1 } }
  match Config.spc700Exec op apu.regs with
  | some action => apu.perform action
  | none => { apu with reports := apu.reports ++ [⟨op, opPc⟩] }

/-- One timer's part of `TickTimers()` (R371). -/
def Timer.tick (timer : Timer) : Timer :=
  if timer.enabled then
    if timer.counter + 1 = timer.target then { timer with counter := 0, out := timer.out + 1 }
    else { timer with counter := timer.counter + 1 }
  else timer

/-- `TickTimers()` (R371). -/
def Apu.tickTimers (apu : Apu) : Apu := { apu with timers := apu.timers.map Timer.tick }

/-- `DspTick()` on the APU (R361, R416). -/
def Apu.tickDsp (cfg : Config) (apu : Apu) : Apu := { apu with dsp := apu.dsp.tick cfg apu.aram }

/-- `Cycle()` (R361): instruction, timers, DSP. -/
def Apu.cycle (cfg : Config) (apu : Apu) : Apu := (apu.spc700Exec.tickTimers).tickDsp cfg

/-- Write bytes at successive ARAM addresses, wrapping modulo 65536 (R385). -/
def aramPutBytes (m : Memory) (a : Word) : List Byte → Memory
  | [] => m
  | v :: rest => aramPutBytes (aramPutByte m a v) (a + 1) rest

/-- The upload loop of R385; each turn takes a block off `src`, so `fuel` at least the length of `src` is enough. A
malformed block stops the loop and leaves no record: R385 quotes "logged and skipped" and gives no log, and this is the
model's choice (DESIGN CHOICE, log entry 25). -/
def uploadBlocks : Nat → Memory → List Byte → Memory
  | 0, m, _ => m
  | fuel + 1, m, src =>
    match src with
    | s0 :: s1 :: a0 :: a1 :: rest =>
      let size := (word16 s0 s1).toNat
      if size = 0 ∨ rest.length < size then m
      else uploadBlocks fuel (aramPutBytes m (word16 a0 a1) (rest.take size)) (rest.drop size)
    | _ => m

/-- Upload of blocks into ARAM (R385). -/
def upload (m : Memory) (src : List Byte) : Memory := uploadBlocks src.length m src

end Sys2Proof.Machine
end

