-- ==== Sys2Proof/Machine/HostInterface.lean ====
section
/-! DEFINITION. What the surroundings do to the block and what they read of it (R466; log entry 13). -/

namespace Sys2Proof.Machine

/-- The effect of a host operation other than `Step()` (R466). With `HAS_EXT_INTERRUPTS` false the inputs `irq` and
`nmi` are tied inactive (R6). -/
def hostEffect (a : HostAction) (s : State) : State :=
  match a with
  | .step => s
  | .reset draw => s.cpuReset draw
  | .setIrq level => { s with irqLine := level && s.config.hasExtInterrupts }
  | .pulseNmi => { s with nmiPending := s.nmiPending || s.config.hasExtInterrupts }
  | .loadMemory addr bytes => { s with mem := memPutBytes s.mem addr bytes }
  | .apuReset ring => { s with apu := Apu.reset s.config.apuResetPc s.apu.aram (ringOf ring) }
  | .cycle => { s with apu := s.apu.cycle s.config }
  | .runCycles n => { s with apu := applyTimes (Apu.cycle s.config) n s.apu }
  | .writeInPort i v => { s with apu := s.apu.setInPort i v }
  | .upload src => { s with apu := { s.apu with aram := upload s.apu.aram src } }
  | .setApuPc pc => { s with apu := { s.apu with regs := { s.apu.regs with pc := pc } } }
  | .resetSampleBuffer => { s with apu := { s.apu with dsp := s.apu.dsp.resetSampleBuffer }, readCursor := 0 }
  | .newFrame => { s with apu := { s.apu with dsp := s.apu.dsp.newFrame } }
  | .drainSamples => { s with readCursor := s.apu.dsp.frameBoundary }

/-- The host's read of `out_ports[i]` (R383). -/
def State.outPort (s : State) (i : Fin 4) : Byte := s.apu.outPorts[i]

/-- The host's read-back of an ARAM byte (R386). -/
def State.aramByte (s : State) (a : Word) : Byte := Machine.aramByte s.apu.aram a

/-- `GetSampleOffset()` (R420). -/
def State.sampleOffset (s : State) : Nat := s.apu.dsp.writeCursor

/-- `GetFrameBoundary()` (R420). -/
def State.frameBoundary (s : State) : Nat := s.apu.dsp.frameBoundary

/-- How many ring entries the host may read: from `rd` up to the frame boundary, modulo `RING_SIZE` (R421). -/
def State.readableCount (s : State) : Nat :=
  (s.apu.dsp.frameBoundary + s.config.ringSize - s.readCursor) % s.config.ringSize

/-- The host's read of the `k`-th unread entry; none past the frame boundary, which is outside the contract
(R421, U6; log entry 18). -/
def State.readSample (s : State) (k : Nat) : Option Sample :=
  if k < s.readableCount then some (ringSample s.apu.dsp.ring ((s.readCursor + k) % s.config.ringSize)) else none

/-- The host operations that start a song (R384): the trigger is written last. -/
def startSong (song trigger : Byte) : List HostAction := [.writeInPort 0 song, .writeInPort 1 trigger]

/-- The host operations that request a full stop (R384). -/
def fullStop : List HostAction := [.writeInPort 0 0x00, .writeInPort 1 0xFF]

/-- The block's part of one per-frame update (R489): a frame's burst of cycles, commit, drain. -/
def frameUpdate (cfg : Config) : List HostAction :=
  [.runCycles (cfg.frameSamples * cfg.stepsPerSample), .newFrame, .drainSamples]

/-- The host's liveness policy (R387, R455): the five latest samples of `apu.PC`, newest first, are one address. -/
def livenessFault : List Word → Bool
  | k0 :: k1 :: k2 :: k3 :: k4 :: _ => k0 = k1 ∧ k1 = k2 ∧ k2 = k3 ∧ k3 = k4
  | _ => false

end Sys2Proof.Machine
end

