-- ==== Sys2Proof/Machine/Engine.lean ====
section
/-! DEFINITION. The step relation of the CPU engine (R430) and whose turn it is (R13; log entry 13). -/

namespace Sys2Proof.Machine

/-- Fetch, decode and execute one instruction, or report an unknown opcode (R430, R431, R440). `exec` is given the
state with `PC` past the instruction's bytes (R26; log entry 16). -/
def runInstruction (s : State) : Result :=
  if s.config.knows (s.codeByte 0) then exec s.nextInstr.1 (s.advance s.nextInstr.2)
  else .next ((s.advance 1).reportUnknown (s.codeByte 0) s.pc)

/-- An asserted IRQ wakes a waiting engine whatever `P.I` is (R348, R430). -/
def State.wakeOnIrq (s : State) : State :=
  { s with run := if s.irqLine && s.run == .waiting then .running else s.run }

/-- `Step()` (R430): nothing, one interrupt sequence, one instruction, or one unknown-opcode report. -/
def engineStep (s : State) : Result :=
  if s.run = .stopped then .next s
  else if s.nmiPending then
    .next (State.trapEnter { s with nmiPending := false, run := .running } .nmi)
  else if s.irqLine && !s.flag .i then .next (s.wakeOnIrq.trapEnter .irq)
  else if s.wakeOnIrq.run = .waiting then .next s
  else runInstruction s.wakeOnIrq

/-- One step of the whole block: the oldest pending host operation, or a CPU `Step()` when none is pending
(R13, R466; log entry 13). -/
def blockStep (s : State) : Result :=
  match s.hostQueue with
  | [] => engineStep s
  | .step :: rest => engineStep { s with hostQueue := rest }
  | a :: rest => .next (hostEffect a { s with hostQueue := rest })

end Sys2Proof.Machine
end

