-- ==== Sys2Proof/Machine/Step.lean ====
section
/-! DEFINITION. The step of the machine, and where it fetches its next instruction. -/

namespace Sys2Proof.Machine

/-- One step (R13, R430). -/
def step (s : State) : Host.Outcome State Fault Refusal := blockStep s

/-- The state with an instruction stored where `step` fetches its next one (log entry 14). -/
def State.withFetchWord (s : State) (nbits w : Nat) : State := s.placeWord nbits w

end Sys2Proof.Machine
end

