-- ==== Sys2Proof/Safety.lean ====
section
/-! DEFINITION. The invariants of the machine, and what counts as a safe run, in the terms the statements use. -/

namespace Sys2Proof.Machine

/-- What emulation mode keeps (R24, R28): the stack in page 1, M and X at 1. -/
structure State.EmulationInv (s : State) : Prop where
  stackPage : s.e = true → highByte s.sp = 0x01
  widthM : s.e = true → s.flag .m = true
  widthX : s.e = true → s.flag .x = true

/-- What 8-bit index mode keeps (R23): the high bytes of X and Y are zero. -/
structure State.IndexInv (s : State) : Prop where
  highX : s.x8 = true → highByte s.x = 0
  highY : s.x8 = true → highByte s.y = 0

/-- CPU memory, ARAM and the ring are in canonical form (log entries 1, 2, 3). -/
structure State.MemoryInv (s : State) : Prop where
  mem : Memory.wf s.mem = true
  aram : Aram.wf s.apu.aram = true
  ring : Ring.wf s.apu.dsp.ring = true

/-- The ring's cursors stay inside a ring that has entries (R416, R420, R421). -/
structure State.RingInv (s : State) : Prop where
  write : 0 < s.config.ringSize → s.apu.dsp.writeCursor < s.config.ringSize
  boundary : 0 < s.config.ringSize → s.apu.dsp.frameBoundary < s.config.ringSize
  read : 0 < s.config.ringSize → s.readCursor < s.config.ringSize

/-- The invariant that every step keeps. -/
structure State.Inv (s : State) : Prop where
  emulation : s.EmulationInv
  index : s.IndexInv
  memory : s.MemoryInv
  ring : s.RingInv

/-- A channel that is not keyed on is silent and in release (R406, R412, R413, R414, R422). -/
def Dsp.SilenceInv (d : Dsp) : Prop :=
  ∀ v : Fin 8, (d.channel v).keyOn = false → (d.channel v).env = 0 ∧ (d.channel v).phase = .release

/-- A state reached from another by steps. -/
inductive Reaches : State → State → Prop where
  | refl (s : State) : Reaches s s
  | step (s t u : State) : Reaches s t → Sys2Proof.Machine.step t = .next u → Reaches s u

/-- A step that executes no unknown opcode: it answers a next state and adds no report (R440). -/
def SafeStep (s : State) : Prop :=
  ∃ t, Sys2Proof.Machine.step s = .next t ∧ t.reports.length ≤ s.reports.length

end Sys2Proof.Machine
end

