-- ==== Sys2Proof/Certificates/Slice0/Obligations.lean ====
section
/-! DEFINITION. The statements for the provers, and first the words they are written in: numbers read off registers
and memory, what "kept" means, and what a push, a pull, a store and a trap do, each in the terms of the spec's rules
and not of the model's own operations. -/

namespace Sys2Proof.Claims

open Sys2Proof.Machine

/-! Registers, flags and widths. -/

/-- The value of a register seen in a width (R22, R170). -/
def regValue (w : Width) (r : Word) : Nat := r.toNat % 2 ^ w.bits

/-- An 8w-bit value read as two's complement (R7). -/
def signedOf (w : Width) (v : Nat) : Int := if v < 2 ^ (w.bits - 1) then v else (v : Int) - 2 ^ w.bits

/-- An integer outside the signed range of a width (R173). -/
def overflows (w : Width) (x : Int) : Bool := decide (x < -2 ^ (w.bits - 1) ∨ 2 ^ (w.bits - 1) ≤ x)

/-- The accumulator in a width has become `v`; an 8-bit write keeps `B` (R22). -/
structure AccHolds (s t : State) (w : Width) (v : Nat) : Prop where
  value : regValue w t.c = v
  keepsB : w = .byte → highByte t.c = highByte s.c

/-- N and Z are those of the 8w-bit value `v` (R10). -/
structure ShowsNZ (t : State) (w : Width) (v : Nat) : Prop where
  negative : t.flag .n = decide (2 ^ (w.bits - 1) ≤ v)
  zero : t.flag .z = decide (v = 0)

/-- Every flag outside the list is as it was. -/
def FlagsKept (s t : State) (written : List Flag) : Prop := ∀ f, f ∉ written → t.flag f = s.flag f

/-- The width of the operand of an instruction that reads one: the index width for the index registers (R71). -/
def dataWidth (s : State) : DataOp → Width
  | .ldx | .ldy | .cpx | .cpy => s.xw
  | .adc | .sbc | .and | .ora | .eor | .cmp | .bit | .lda => s.mw

/-- `Operand(w)` as a number (R160). -/
def operandValue (s : State) (op : DataOp) (o : DataOperand) : Nat := (s.operand o (dataWidth s op)).toNat

/-! Memory. -/

/-- The byte at a CPU address as a number. -/
def byteAt (s : State) (a : Nat) : Nat := (memByte s.mem (BitVec.ofNat 24 a)).toNat

/-- The value of a width at a flat address, low byte first (R64, R68). -/
def dataAt (s : State) (a : Addr) (w : Width) : Nat :=
  (memByte s.mem a).toNat + (if w = .word then 256 * (memByte s.mem (a + 1)).toNat else 0)

/-- The two bytes at a bank-0 offset, wrapping in the bank (R66). -/
def word0 (s : State) (offset : Nat) : Nat := byteAt s (offset % 65536) + 256 * byteAt s ((offset + 1) % 65536)

/-- The three bytes at a bank-0 offset, wrapping in the bank (R66). -/
def long0 (s : State) (offset : Nat) : Nat := word0 s offset + 65536 * byteAt s ((offset + 2) % 65536)

/-- The low `w` bytes of `v` now stand at a flat address, low byte first, and every other byte is as it was
(R65, R68). -/
structure Stored (s t : State) (a : Addr) (w : Width) (v : Nat) : Prop where
  low : (memByte t.mem a).toNat = v % 256
  high : w = .word → (memByte t.mem (a + 1)).toNat = v / 256 % 256
  others : ∀ b, b ≠ a → (w = .word → b ≠ a + 1) → memByte t.mem b = memByte s.mem b

/-! The stack (R260 to R263): bank 0, page-wrapping in emulation mode. -/

/-- `S` moved by `n` bytes: only `SL` moves in emulation mode. -/
def stackMoved (s : State) (n : Int) : Word :=
  if s.e then word16 (lowByte s.sp + BitVec.ofInt 8 n) (highByte s.sp) else s.sp + BitVec.ofInt 16 n

/-- Where the byte pushed after `k` others goes. -/
def pushSlot (s : State) (k : Nat) : Addr := bank0 (stackMoved s (-(k : Int)))

/-- The byte pulled after `k` others. -/
def pulledByte (s : State) (k : Nat) : Byte := memByte s.mem (bank0 (stackMoved s ((k : Int) + 1)))

/-- The word pulled after `k` bytes, low byte first. -/
def pulledWord (s : State) (k : Nat) : Word := word16 (pulledByte s k) (pulledByte s (k + 1))

/-- The bytes were pushed in this order, `S` moved past them, and every other byte of memory is as it was. -/
structure Pushed (s t : State) (bytes : List Byte) : Prop where
  slots : ∀ k (h : k < bytes.length), memByte t.mem (pushSlot s k) = bytes[k]
  others : ∀ a, (∀ k, k < bytes.length → a ≠ pushSlot s k) → memByte t.mem a = memByte s.mem a
  pointer : t.sp = stackMoved s (-(bytes.length : Int))

/-! Traps. -/

/-- The vector table (R72). -/
def vectorOf : Trap → Bool → Word
  | .cop, true => 0xFFF4
  | .cop, false => 0xFFE4
  | .brk, true => 0xFFFE
  | .brk, false => 0xFFE6
  | .nmi, true => 0xFFFA
  | .nmi, false => 0xFFEA
  | .irq, true => 0xFFFE
  | .irq, false => 0xFFEE

/-- The status byte a trap pushes (R446): `P` in native mode; in emulation mode bit 4 tells BRK and COP from an
interrupt and bit 5 is 1. -/
def StatusPushed (k : Trap) (s : State) (b : Byte) : Prop :=
  if s.e then
    ∀ n, n < 8 →
      b.getLsbD n = if n = 5 then true else if n = 4 then decide (k = .brk ∨ k = .cop) else s.p.getLsbD n
  else b = s.p

/-- The trap was taken from `s`, whose `pc` is the address to resume at (R445). -/
structure TrapTaken (k : Trap) (s t : State) : Prop where
  saved : ∃ b, StatusPushed k s b ∧
    Pushed s t ((if s.e then [] else [s.pb]) ++ [highByte s.pc, lowByte s.pc, b])
  disabled : t.flag .i = true
  binary : t.flag .d = false
  flags : FlagsKept s t [.i, .d]
  bank : t.pb = 0
  vector : t.pc.toNat = word0 t (vectorOf k s.e).toNat
  frame : t = { s with sp := t.sp, mem := t.mem, p := t.p, pb := t.pb, pc := t.pc }

/-! Whose turn it is. -/

/-- The next step is the CPU's `Step()`: nothing is pending from the host, or a call of `Step()` is. -/
def CpuTurn (s : State) : Prop := s.hostQueue = [] ∨ s.hostQueue.head? = some .step

/-- The state with the pending call taken off the queue. -/
def called (s : State) : State := { s with hostQueue := s.hostQueue.tail }

/-- The CPU's turn, the engine running, and no interrupt to take (R430). -/
structure Executes (s : State) : Prop where
  turn : CpuTurn s
  running : s.run = .running
  noNmi : s.nmiPending = false
  noIrq : s.irqLine = false ∨ s.flag .i = true

/-- Everything that is not the CPU's: the coprocessor, the host's fields, the configuration, the inputs. -/
structure SurroundingsKept (s t : State) : Prop where
  apu : t.apu = s.apu
  cursor : t.readCursor = s.readCursor
  queue : t.hostQueue = s.hostQueue
  config : t.config = s.config
  irq : t.irqLine = s.irqLine
  nmi : t.nmiPending = s.nmiPending

/-! Decimal arithmetic (R162). -/

/-- The number of decimal digits of a width. -/
def digitCount (w : Width) : Nat := 2 * w.bytes

/-- Every digit of the value is 0 to 9. -/
def AllDigits (w : Width) (v : Nat) : Prop := ∀ k, k < digitCount w → v / 16 ^ k % 16 ≤ 9

/-- The number that the first `n` digits of the value write. -/
def decimalValue (v : Nat) : Nat → Nat
  | 0 => 0
  | n + 1 => decimalValue v n + v / 16 ^ n % 16 * 10 ^ n

/-- The instruction is an `ADC` or an `SBC`, the decimal flag is set, and the configuration refuses decimal
arithmetic (R163, R164). -/
def DecimalRefused (i : Instr) (s : State) : Prop :=
  (∃ o, i.dataForm = some (.adc, o) ∨ i.dataForm = some (.sbc, o)) ∧ s.flag .d = true ∧
    s.config.decimalMode = .refuse

/-- After a decimal addition or subtraction: the accumulator, N, Z, C, V may differ, and the model's own count of
free values (log entry 10). -/
structure AfterDecimal (s t : State) (r : Nat) : Prop where
  acc : AccHolds s t s.mw r
  nz : ShowsNZ t s.mw r
  kept : FlagsKept s t [.n, .v, .z, .c]
  frame : t = { s with c := t.c, p := t.p, freeCounter := t.freeCounter }

/-! Logic, compare, shifts. -/

/-- The result of a logic instruction (R165, R166, R167). -/
def logicValue : DataOp → Nat → Nat → Option Nat
  | .and, a, m => some (a &&& m)
  | .ora, a, m => some (a ||| m)
  | .eor, a, m => some (a ^^^ m)
  | _, _, _ => none

/-- The register that a compare reads (R169, R170, R171). -/
def comparedRegister (s : State) : DataOp → Option Word
  | .cmp => some s.c
  | .cpx => some s.x
  | .cpy => some s.y
  | _ => none

/-- What a shift or rotate makes of an old carry and an 8w-bit value: the result and the new carry
(R191, R192, R193, R194). -/
def shiftResult (w : Width) (cin v : Nat) : RmwOp → Option (Nat × Bool)
  | .asl => some (2 * v % 2 ^ w.bits, decide (2 ^ (w.bits - 1) ≤ v))
  | .lsr => some (v / 2, decide (v % 2 = 1))
  | .rol => some ((2 * v + cin) % 2 ^ w.bits, decide (2 ^ (w.bits - 1) ≤ v))
  | .ror => some (v / 2 + cin * 2 ^ (w.bits - 1), decide (v % 2 = 1))
  | .inc | .dec => none

/-- What an increment or decrement makes of an 8w-bit value (R195, R196). -/
def countResult (w : Width) (v : Nat) : RmwOp → Option Nat
  | .inc => some ((v + 1) % 2 ^ w.bits)
  | .dec => some ((v + 2 ^ w.bits - 1) % 2 ^ w.bits)
  | .asl | .lsr | .rol | .ror => none

/-- What a read-modify-write reads (R190). -/
def targetValue (s : State) : RmwTarget → Nat
  | .acc => regValue s.mw s.c
  | .mem mode => dataAt s (s.ea mode) s.mw

/-- A read-modify-write left `r` in its target and changed nothing else but flags (R190). -/
def Modified (s t : State) (r : Nat) : RmwTarget → Prop
  | .acc => AccHolds s t s.mw r ∧ t = { s with c := t.c, p := t.p }
  | .mem mode => Stored s t (s.ea mode) s.mw r ∧ t = { s with mem := t.mem, p := t.p }

/-! Control, stack, stores. -/

/-- The predicate of a branch (R221 to R229). -/
def branchHolds (s : State) : BranchCond → Prop
  | .carryClear => s.flag .c = false
  | .carrySet => s.flag .c = true
  | .equal => s.flag .z = true
  | .notEqual => s.flag .z = false
  | .minus => s.flag .n = true
  | .plus => s.flag .n = false
  | .overflowClear => s.flag .v = false
  | .overflowSet => s.flag .v = true
  | .always => True

/-- The bytes of a register pushed in a width, the high byte first (R261, R264, R265, R266). -/
def registerBytes (w : Width) (r : Word) : List Byte :=
  match w with
  | .byte => [lowByte r]
  | .word => [highByte r, lowByte r]

/-- What the push instructions push, in order (R264 to R270, R277 to R279). -/
def pushedBytes (s : State) : Instr → Option (List Byte)
  | .pha => some (registerBytes s.mw s.c)
  | .phx => some (registerBytes s.xw s.x)
  | .phy => some (registerBytes s.xw s.y)
  | .phb => some [s.db]
  | .phd => some [highByte s.d, lowByte s.d]
  | .phk => some [s.pb]
  | .php => some [s.p]
  | .pea imm => some [highByte imm, lowByte imm]
  | .pei dp =>
    let p := s.d.toNat + dp.toNat
    some [BitVec.ofNat 8 (byteAt s ((p + 1) % 65536)), BitVec.ofNat 8 (byteAt s (p % 65536))]
  | .per rel => some [highByte (s.pc + rel), lowByte (s.pc + rel)]
  | _ => none

/-- The value a store stores and its width (R293 to R296). -/
def storeValue (s : State) : StoreOp → Nat × Width
  | .sta => (regValue s.mw s.c, s.mw)
  | .stx => (regValue s.xw s.x, s.xw)
  | .sty => (regValue s.xw s.y, s.xw)
  | .stz => (0, s.mw)

/-- The same instruction executed `n` times, its bytes fetched again each time (R351). -/
def runSame (i : Instr) : Nat → State → Result
  | 0, s => .next s
  | n + 1, s =>
    match exec i { s with pc := s.pc + BitVec.ofNat 16 i.length } with
    | .next t => runSame i n t
    | r => r

/-! Which instructions write what (R25, R27), by opcode where a family has no form of its own. -/

/-- The data instruction is one of these. -/
def dataIn (i : Instr) (ops : List DataOp) : Prop := ∃ op o, i.dataForm = some (op, o) ∧ op ∈ ops

/-- The opcode byte is one of these. -/
def opcodeIn (i : Instr) (codes : List Byte) : Prop := i.opcode ∈ codes

/-- The instructions that may write `C` (R25). -/
def writesC (i : Instr) : Prop :=
  dataIn i [.adc, .sbc, .and, .ora, .eor, .lda] ∨ (∃ op, i.rmwForm = some (op, .acc)) ∨
    opcodeIn i [0x68, 0x8A, 0x98, 0x7B, 0x3B, 0xEB, 0x54, 0x44]

/-- The instructions that may write `X` (R25), with those that clear `XH` (R23). -/
def writesX (i : Instr) : Prop :=
  dataIn i [.ldx] ∨ opcodeIn i [0xFA, 0xAA, 0xBB, 0xBA, 0xE8, 0xCA, 0x54, 0x44, 0xE2, 0xC2, 0x28, 0x40, 0xFB]

/-- The instructions that may write `Y` (R25), with those that clear `YH` (R23). -/
def writesY (i : Instr) : Prop :=
  dataIn i [.ldy] ∨ opcodeIn i [0x7A, 0xA8, 0x9B, 0xC8, 0x88, 0x54, 0x44, 0xE2, 0xC2, 0x28, 0x40, 0xFB]

/-- The instructions that move the stack pointer (R25). -/
def writesS (i : Instr) : Prop :=
  opcodeIn i
    [0x48, 0xDA, 0x5A, 0x8B, 0x0B, 0x4B, 0x08, 0x68, 0xFA, 0x7A, 0xAB, 0x2B, 0x28, 0xF4, 0xD4, 0x62, 0x20, 0xFC,
     0x22, 0x60, 0x6B, 0x40, 0x00, 0x02, 0x9A, 0x1B, 0xFB]

/-- The instructions that may write memory: stores, read-modify-writes, `TSB`, `TRB`, pushes, calls, software
interrupts and block moves. -/
def writesMemory (i : Instr) : Prop :=
  (∃ f, i.storeForm = some f) ∨ (∃ op mode, i.rmwForm = some (op, .mem mode)) ∨ (∃ f, i.testForm = some f) ∨
    opcodeIn i
      [0x48, 0xDA, 0x5A, 0x8B, 0x0B, 0x4B, 0x08, 0xF4, 0xD4, 0x62, 0x20, 0xFC, 0x22, 0x00, 0x02, 0x54, 0x44]

/-- The instructions whose rule writes N (R27). -/
def writesN (i : Instr) : Prop :=
  dataIn i [.adc, .sbc, .and, .ora, .eor, .cmp, .cpx, .cpy, .lda, .ldx, .ldy] ∨
    (∃ mode, i.dataForm = some (.bit, .mem mode)) ∨ (∃ f, i.rmwForm = some f) ∨
    opcodeIn i
      [0xE8, 0xC8, 0xCA, 0x88, 0x68, 0xFA, 0x7A, 0xAB, 0x2B, 0xAA, 0xA8, 0x8A, 0x98, 0x9B, 0xBB, 0xBA, 0x5B, 0x7B,
       0x3B, 0xEB, 0x28, 0x40, 0xC2, 0xE2]

/-- The instructions whose rule writes the flag (R27). -/
def writesFlag (i : Instr) : Flag → Prop
  | .n => writesN i
  | .z => writesN i ∨ dataIn i [.bit] ∨ (∃ f, i.testForm = some f)
  | .v => dataIn i [.adc, .sbc] ∨ (∃ mode, i.dataForm = some (.bit, .mem mode)) ∨ opcodeIn i [0xB8, 0x28, 0x40, 0xC2, 0xE2]
  | .m | .x => opcodeIn i [0xC2, 0xE2, 0x28, 0x40, 0xFB]
  | .d => opcodeIn i [0xF8, 0xD8, 0xC2, 0xE2, 0x28, 0x40, 0x00, 0x02]
  | .i => opcodeIn i [0x78, 0x58, 0xC2, 0xE2, 0x28, 0x40, 0x00, 0x02]
  | .c =>
    dataIn i [.adc, .sbc, .cmp, .cpx, .cpy] ∨
      (∃ op target, i.rmwForm = some (op, target) ∧ op ∈ [.asl, .lsr, .rol, .ror]) ∨
      opcodeIn i [0x38, 0x18, 0xFB, 0x28, 0x40, 0xC2, 0xE2]

/-! Encodings. -/

/-- The opcodes of format `IMM_M` (R93). -/
def immMOpcodes : List Byte := [0x09, 0x29, 0x49, 0x69, 0x89, 0xA9, 0xC9, 0xE9]

/-- The opcodes of format `IMM_X` (R93). -/
def immXOpcodes : List Byte := [0xA0, 0xA2, 0xC0, 0xE0]

/-! Reset. -/

/-- What CPU reset leaves (R36, R470): the values the spec states, and nothing about those it leaves open. -/
structure CpuAfterReset (t : State) : Prop where
  emulation : t.e = true
  flagM : t.flag .m = true
  flagX : t.flag .x = true
  flagI : t.flag .i = true
  flagD : t.flag .d = false
  highX : highByte t.x = 0
  highY : highByte t.y = 0
  stackPage : highByte t.sp = 0x01
  direct : t.d = 0
  dataBank : t.db = 0
  programBank : t.pb = 0
  running : t.run = .running
  noNmi : t.nmiPending = false
  noReports : t.reports = []
  vector : t.pc.toNat = word0 t 0xFFFC

/-- What APU reset leaves (R33, R34, R389, R422); of the model's own channel field `outx` (log entry 19) nothing is
said. -/
structure ApuAfterReset (cfg : Config) (a : Apu) : Prop where
  registers : a.regs = { pc := cfg.apuResetPc, a := 0, x := 0, y := 0, sp := 0xEF, psw := 0 }
  inPorts : ∀ i : Fin 4, a.inPorts[i] = 0
  outPorts : ∀ i : Fin 4, a.outPorts[i] = 0
  timers : ∀ t : Fin 3, a.timer t = { enabled := false, counter := 0, target := 0, out := 0 }
  address : a.dspAddr = 0
  channels : ∀ v : Fin 8, ∃ o, a.dsp.channel v =
    { keyOn := false, srcn := 0, pitch := 0, volL := 0, volR := 0, gain := 0, adsr1 := 0, adsr2 := 0,
      phase := .release, env := 0, brrAddr := 0, brrPos := 0, p1 := 0, p2 := 0, frac := 0, outx := o }
  dspRegs : ∀ k : BitVec 7, a.dsp.reg k = if k = 0x6C then 0xE0 else 0
  writeCursor : a.dsp.writeCursor = 0
  boundary : a.dsp.frameBoundary = 0
  stepCount : a.dsp.stepCount = 0

/-! The coprocessor. -/

/-- Replace the coprocessor in an outcome. -/
def withApu (a : Apu) : Result → Result
  | .next t => .next { t with apu := a }
  | .fault f => .fault f
  | .refused r => .refused r

/-- The steps between two firings of a timer: its target, or 256 for target 0 (R371). -/
def timerPeriod (timer : Timer) : Nat := if timer.target.toNat = 0 then 256 else timer.target.toNat

/-! The DSP. -/

/-- The address of register `k` of channel `v`: `$v0 + k` (R402). -/
def channelReg (v : Fin 8) (k : Nat) : BitVec 7 := BitVec.ofNat 7 (16 * v.val + k)

/-- What a write of `val` to register `k` of a channel makes of the channel (R402): its eight fields; registers 8 to 15
are no fields of it. -/
def FieldWritten (k : Nat) (val : Byte) (ch after : Channel) : Prop :=
  match k with
  | 0 => after = { ch with volL := val }
  | 1 => after = { ch with volR := val }
  | 2 => after = { ch with pitch := after.pitch } ∧ after.pitch.toNat = ch.pitch.toNat / 256 * 256 + val.toNat
  | 3 => after = { ch with pitch := after.pitch } ∧
      after.pitch.toNat = val.toNat % 64 * 256 + ch.pitch.toNat % 256
  | 4 => after = { ch with srcn := val }
  | 5 => after = { ch with adsr1 := val }
  | 6 => after = { ch with adsr2 := val }
  | 7 => after = { ch with gain := val }
  | _ => after = ch

/-- The value read as a 4-bit two's complement number (R410). -/
def sext4 (v : Nat) : Int := if v < 8 then v else (v : Int) - 16

/-- The arithmetic shift right of R410, R415: floor division by a power of two. -/
def asr (x : Int) (k : Nat) : Int := x / 2 ^ k

/-- The decoded sample of R410 from the header, the residual and the two samples before it. -/
def decodedSample (header : Nat) (residual p1 p2 : Int) : Int :=
  let shift := header / 16
  let s := if shift ≤ 12 then asr (residual * 2 ^ shift) 1 else if residual < 0 then -2048 else 0
  let s := match header / 4 % 4 with
    | 0 => s
    | 1 => s + p1 - asr p1 4
    | 2 => s + 2 * p1 - asr (3 * p1) 5 - p2 + asr p2 4
    | _ => s + 2 * p1 - asr (13 * p1) 6 - p2 + asr (3 * p2) 4
  let s := max (-32768) (min 32767 s)
  asr ((2 * s + 32768) % 65536 - 32768) 1

/-- `after` is the channel once the residual `brr_pos` of its block has been decoded (R410). -/
structure Decoded (aram : Memory) (ch after : Channel) : Prop where
  sample :
    let data := (aramByte aram (ch.brrAddr + 1 + BitVec.ofNat 16 (ch.brrPos.toNat / 2))).toNat
    after.p1.toInt =
      decodedSample (aramByte aram ch.brrAddr).toNat
        (sext4 (if ch.brrPos.toNat % 2 = 0 then data / 16 else data % 16)) ch.p1.toInt ch.p2.toInt
  older : after.p2 = ch.p1
  frame : after = { ch with p1 := after.p1, p2 := after.p2 }

/-- What the end of a block makes of its channel (R412). -/
def blockEnded (aram : Memory) (dir : Byte) (ch : Channel) : Channel :=
  let header := aramByte aram ch.brrAddr
  if header.getLsbD 0 then
    if header.getLsbD 1 then
      { ch with brrPos := 0, brrAddr := aramWord aram (word16 0 dir + 4 * ch.srcn.setWidth 16 + 2) }
    else { ch with brrPos := 0, keyOn := false, env := 0, phase := .release }
  else { ch with brrPos := 0, brrAddr := ch.brrAddr + 9 }

/-- One turn of the loop of R411 on channel `v`: a residual decoded, `brr_pos` moved on, the block ended after its
sixteenth (R410, R411, R412). -/
structure SourceTurn (aram : Memory) (v : Fin 8) (d after : Dsp) : Prop where
  channel : ∃ ch, Decoded aram (d.channel v) ch ∧
    after.channel v =
      if ch.brrPos.toNat < 15 then { ch with brrPos := ch.brrPos + 1 } else blockEnded aram (d.reg 0x5D) ch
  ended : after.endx.getLsbD v.val = (d.endx.getLsbD v.val ||
    (decide ((d.channel v).brrPos.toNat = 15) && (aramByte aram (d.channel v).brrAddr).getLsbD 0))
  otherEnds : ∀ w : Fin 8, w ≠ v → after.endx.getLsbD w.val = d.endx.getLsbD w.val
  others : ∀ w : Fin 8, w ≠ v → after.channel w = d.channel w
  frame : after = { d with channels := after.channels, endx := after.endx }

/-- The loop `while frac >= $1000` of R411, at most `fuel` turns of it, with the `frac` that is left. -/
def pitchLoop (turn : Dsp → Dsp) : Nat → Nat → Dsp → Dsp × Nat
  | 0, frac, d => (d, frac)
  | fuel + 1, frac, d => if frac < 0x1000 then (d, frac) else pitchLoop turn fuel (frac - 0x1000) (turn d)

/-- `clamp(x, -32768, 32767)` (R415). -/
def clampSample (x : Int) : Int := max (-32768) (min 32767 x)

/-- `out` of a channel after its turn, in a sample whose turn it began keyed on or not (R415). -/
def channelOut (keyedOn : Bool) (after : Channel) : Int :=
  if keyedOn then asr (after.p1.toInt * (after.env.toNat : Int)) 11 else 0

/-- The sum over the channels of `out` scaled by a volume, clamped at each channel (R415). -/
def mixed (out : Fin 8 → Int) (volume : Fin 8 → Byte) : Int :=
  (List.finRange 8).foldl (fun sum v => clampSample (sum + asr (out v * (volume v).toInt) 7)) 0

/-- What an output sample makes of the DSP, and the sample (R415): each channel that is keyed on is pitched and then
enveloped, the others contribute 0. -/
structure SampleProduced (aram : Memory) (d after : Dsp) (sample : Sample) : Prop where
  keyedOn : ∀ v, (d.channel v).keyOn = true →
    after.channel v =
      { ((d.pitchStep aram v).channel v).envelopeStep d.sampleNumber with outx := (after.channel v).outx }
  keyedOff : ∀ v, (d.channel v).keyOn = false →
    after.channel v = { d.channel v with outx := (after.channel v).outx }
  outx : ∀ v, ((after.channel v).outx.toNat : Int) =
    asr (channelOut (d.channel v).keyOn (after.channel v)) 8 % 256
  outxStored : ∀ v, after.reg (channelReg v 9) = (after.channel v).outx
  envxStored : ∀ v, (after.reg (channelReg v 8)).toNat = (after.channel v).env.toNat / 16
  left : sample.left.toInt = if (d.reg 0x6C).getLsbD 6 then 0 else
    clampSample
      (asr (mixed (fun v => channelOut (d.channel v).keyOn (after.channel v)) (fun v => (d.channel v).volL) *
        (d.reg 0x0C).toInt) 7)
  right : sample.right.toInt = if (d.reg 0x6C).getLsbD 6 then 0 else
    clampSample
      (asr (mixed (fun v => channelOut (d.channel v).keyOn (after.channel v)) (fun v => (d.channel v).volR) *
        (d.reg 0x1C).toInt) 7)
  bounded : ∀ v, (channelOut (d.channel v).keyOn (after.channel v)).natAbs ≤ (after.channel v).p1.toInt.natAbs
  otherRegs : ∀ a : BitVec 7, a.toNat % 16 ≠ 8 → a.toNat % 16 ≠ 9 → after.reg a = d.reg a
  ends : ∀ v : Fin 8, after.endx.getLsbD v.val =
    if (d.channel v).keyOn then (d.pitchStep aram v).endx.getLsbD v.val else d.endx.getLsbD v.val
  frame : after =
    { d with regs := after.regs, channels := after.channels, endx := after.endx, sampleNumber := d.sampleNumber + 1 }

/-- The exponential fall `env - (((env - 1) >> 8) + 1)` of R413, clamped at 0. -/
def envFallen (env : Nat) : Nat := env - ((env - 1) / 256 + 1)

/-- An envelope step outside release changed the level and the phase to these and nothing else (R413). -/
def EnvelopeMoved (ch after : Channel) (env : Nat) (phase : Phase) : Prop :=
  after.env.toNat = env ∧ after.phase = phase ∧ after = { ch with env := after.env, phase := after.phase }

/-- `Due(r)` at sample `n` (R413): never for rate 0, always for rate 31, and for a rate between them at exactly one of
every `Period(r)` successive samples, with a period that does not grow with the rate. -/
structure RateLimits : Prop where
  never : ∀ n, Config.envelopeDue 0 n = false
  always : ∀ n, Config.envelopeDue 31 n = true
  once : ∀ r n, 0 < r → r < 31 → ∃! k, k < Config.envelopePeriod r ∧ Config.envelopeDue r (n + k) = true
  shorter : ∀ r q, 0 < r → r ≤ q → q ≤ 31 → Config.envelopePeriod q ≤ Config.envelopePeriod r

/-- The attack, decay, sustain and GAIN steps of R413 at output sample `n`. -/
structure EnvelopeSteps (n : Nat) (ch after : Channel) : Prop where
  attack : ch.phase = .attack → ch.adsr1.getLsbD 7 = true →
    let r := 2 * (ch.adsr1.toNat % 16) + 1
    let env := ch.env.toNat + if Config.envelopeDue r n then (if r = 31 then 0x400 else 0x20) else 0
    EnvelopeMoved ch after (min env 0x7FF) (if 0x7FF ≤ env then .decay else .attack)
  decay : ch.phase = .decay → ch.adsr1.getLsbD 7 = true →
    let env := if Config.envelopeDue (2 * (ch.adsr1.toNat / 16 % 8) + 16) n then envFallen ch.env.toNat
      else ch.env.toNat
    EnvelopeMoved ch after env (if env / 256 ≤ ch.adsr2.toNat / 32 then .sustain else .decay)
  sustain : ch.phase = .sustain → ch.adsr1.getLsbD 7 = true →
    EnvelopeMoved ch after
      (if Config.envelopeDue (ch.adsr2.toNat % 32) n then envFallen ch.env.toNat else ch.env.toNat) .sustain
  direct : ch.phase ≠ .release → ch.adsr1.getLsbD 7 = false → ch.gain.getLsbD 7 = false →
    EnvelopeMoved ch after (16 * (ch.gain.toNat % 128)) ch.phase
  gain : ch.phase ≠ .release → ch.adsr1.getLsbD 7 = false → ch.gain.getLsbD 7 = true →
    let env := ch.env.toNat
    let moved := match ch.gain.toNat / 32 % 4 with
      | 0 => env - 0x20
      | 1 => envFallen env
      | 2 => min (env + 0x20) 0x7FF
      | _ => min (env + if env < 0x600 then 0x20 else 8) 0x7FF
    EnvelopeMoved ch after (if Config.envelopeDue (ch.gain.toNat % 32) n then moved else env) ch.phase

/-- The record of one upload block: size, address, bytes (R385). -/
def uploadRecord (addr : Word) (data : List Byte) : List Byte :=
  [lowByte (BitVec.ofNat 16 data.length), highByte (BitVec.ofNat 16 data.length), lowByte addr, highByte addr] ++ data

end Sys2Proof.Claims

open Sys2Proof Sys2Proof.Machine Sys2Proof.Claims

/-! Encoding. -/

/-- A few words written out from R91, R92 and R95 decode to the instructions they stand for; the widths and K are
those after reset, then 16-bit, then with `$42` in K. -/
def Obligations.SpecWordsDecode : Prop :=
  decode resetContext [0xA9, 0x12] = .ok (.ldaImm (.byte 0x12), []) ∧
  decode ⟨false, false, false⟩ [0xA9, 0x34, 0x12] = .ok (.ldaImm (.word 0x1234), []) ∧
  decode ⟨true, false, false⟩ [0xA2, 0x34, 0x12] = .ok (.ldxImm (.word 0x1234), []) ∧
  decode resetContext [0xAF, 0x56, 0x34, 0x12] = .ok (.ldaLong 0x123456, []) ∧
  decode resetContext [0x54, 0x7F, 0x7E] = .ok (.mvn 0x7F 0x7E, []) ∧
  decode resetContext [0x6D, 0x00, 0x80, 0xEA] = .ok (.adcAbs 0x8000, [0xEA]) ∧
  decode resetContext [0xB3, 0x05] = .ok (.ldaSrIndY 0x05, []) ∧
  decode resetContext [0xF0, 0xFE] = .ok (.beq 0xFE, []) ∧
  decode resetContext [0x42, 0xEA] = .ok (.wdm none, [0xEA]) ∧
  decode ⟨true, true, true⟩ [0x42, 0xEA] = .ok (.wdm (some 0xEA), [])

/-- Decoding the encoding of any well-formed instruction, whatever follows it, gives it back and leaves the rest. -/
def Obligations.DecodeOfEncode : Prop :=
  ∀ (ctx : DecodeContext) (i : Instr) (rest : List Byte),
    i.wellFormed ctx = true → decode ctx (encode i ++ rest) = .ok (i, rest)

/-- Whatever the decoder accepts is well formed and is exactly the encoding of the instruction it answers. -/
def Obligations.EncodeOfDecode : Prop :=
  ∀ (ctx : DecodeContext) (bytes : List Byte) (i : Instr) (rest : List Byte),
    decode ctx bytes = .ok (i, rest) → i.wellFormed ctx = true ∧ encode i ++ rest = bytes

/-- R93: twelve opcodes change length with the state's widths; no other opcode's length depends on them. -/
def Obligations.LengthFollowsWidths : Prop :=
  ∀ s : State,
    (s.codeByte 0 ∈ immMOpcodes → s.nextInstr.2 = if s.e = true ∨ s.flag .m = true then 2 else 3) ∧
    (s.codeByte 0 ∈ immXOpcodes → s.nextInstr.2 = if s.e = true ∨ s.flag .x = true then 2 else 3) ∧
    (s.codeByte 0 ∉ immMOpcodes → s.codeByte 0 ∉ immXOpcodes → ∀ m x b1 b2 b3,
      (decodeBytes ⟨m, x, s.config.knows 0x42⟩ (s.codeByte 0) b1 b2 b3).2 = s.nextInstr.2)

/-! The step. -/

/-- When the bytes at `PB:PC` decode to an instruction, a step executes it with `PC` past its bytes (R26, R430,
R431); with the one opcode outside K that R440 covers shut out by the premise on K. -/
def Obligations.StepRunsTheDecodedInstruction : Prop :=
  ∀ (s : State) (i : Instr) (rest : List Byte),
    Executes s → s.config.knows (s.codeByte 0) = true →
    decode s.decodeContext [s.codeByte 0, s.codeByte 1, s.codeByte 2, s.codeByte 3] = .ok (i, rest) →
    step s = exec i { called s with pc := s.pc + BitVec.ofNat 16 i.length }

/-- R440: an opcode outside K is reported with its address and skipped, one byte, and nothing else changes; the next
step decodes the byte after it. -/
def Obligations.UnknownOpcodeIsSkipped : Prop :=
  ∀ s : State, Executes s → s.config.knows (s.codeByte 0) = false →
    ∃ t, step s = .next t ∧
      t = { called s with pc := s.pc + 1, reports := s.reports ++ [⟨s.codeByte 0, s.pb, s.pc⟩] } ∧
      t.run = .running ∧ t.codeByte 0 = memByte s.mem (addr24 s.pb (s.pc + 1))

/-- R349: `STP` stops the engine; a stopped engine's `Step` changes nothing, interrupts or not, and only reset
leaves the state. -/
def Obligations.StopHoldsUntilReset : Prop :=
  (∀ s : State, exec .stp s = .next { s with run := .stopped }) ∧
  (∀ s : State, s.run = .stopped → CpuTurn s → step s = .next (called s)) ∧
  (∀ s t : State, s.run = .stopped → step s = .next t →
    t.run = .stopped ∨ ∃ draw, s.hostQueue.head? = some (.reset draw))

/-- R348: `WAI` waits; a waiting engine's `Step` changes nothing until NMI or IRQ; NMI, and IRQ with I clear, then
run their sequence, and IRQ with I set lets the instruction after `WAI` execute. -/
def Obligations.WaitEndsWithAnInterrupt : Prop :=
  (∀ s : State, exec .wai s = .next { s with run := .waiting }) ∧
  (∀ s : State, s.run = .waiting → CpuTurn s →
    (s.nmiPending = false → s.irqLine = false → step s = .next (called s)) ∧
    (s.nmiPending = true →
      ∃ t, step s = .next t ∧ TrapTaken .nmi { called s with nmiPending := false, run := .running } t) ∧
    (s.nmiPending = false → s.irqLine = true → s.flag .i = false →
      ∃ t, step s = .next t ∧ TrapTaken .irq { called s with run := .running } t) ∧
    (s.nmiPending = false → s.irqLine = true → s.flag .i = true → step s = step { s with run := .running }))

/-! Traps. -/

/-- R445, R446: what `TrapEnter` saves, changes and leaves, and where it goes, for the four events. -/
def Obligations.TrapEntry : Prop := ∀ (k : Trap) (s : State), TrapTaken k s (s.trapEnter k)

/-- R238, R239: `BRK` and `COP` take their trap, whatever the signature byte and whatever `P.I`. -/
def Obligations.SoftwareInterrupts : Prop :=
  ∀ (sig : Byte) (s : State),
    (∃ t, exec (.brk sig) s = .next t ∧ TrapTaken .brk s t) ∧ (∃ t, exec (.cop sig) s = .next t ∧ TrapTaken .cop s t)

/-- R442, R443: an NMI edge sets the latch and is taken by the next `Step`, which clears it; IRQ is honoured when its
line is high and I is clear, is not latched, does not re-enter, and with I set the next instruction executes instead;
an NMI goes before an IRQ (R444, R430). That `HAS_EXT_INTERRUPTS` false makes the host's inputs set nothing is the
model's reading of R6 (log entry 24, DEDUCED). -/
def Obligations.InterruptsAreTaken : Prop :=
  (∀ s : State, CpuTurn s → s.run ≠ .stopped → s.nmiPending = true →
    ∃ t, step s = .next t ∧ TrapTaken .nmi { called s with nmiPending := false, run := .running } t) ∧
  (∀ s : State, CpuTurn s → s.run ≠ .stopped → s.nmiPending = false → s.irqLine = true → s.flag .i = false →
    ∃ t, step s = .next t ∧ TrapTaken .irq { called s with run := .running } t ∧ t.flag .i = true ∧
      t.irqLine = true) ∧
  (∀ s : State, CpuTurn s → s.run = .running → s.nmiPending = false → s.irqLine = true → s.flag .i = true →
    s.config.knows (s.codeByte 0) = true →
    step s = exec s.nextInstr.1 { called s with pc := s.pc + BitVec.ofNat 16 s.nextInstr.2 }) ∧
  (∀ (s : State) (rest : List HostAction), s.hostQueue = .pulseNmi :: rest →
    step s = .next { s with hostQueue := rest, nmiPending := s.nmiPending || s.config.hasExtInterrupts }) ∧
  (∀ (s : State) (level : Bool) (rest : List HostAction), s.hostQueue = .setIrq level :: rest →
    step s = .next { s with hostQueue := rest, irqLine := level && s.config.hasExtInterrupts })

/-- R237: `RTI` pulls `P` through `SetP`, then `PC` exactly, then `PB` in native mode. -/
def Obligations.ReturnFromInterrupt : Prop :=
  ∀ s : State, ∃ t, exec .rti s = .next t ∧
    t.p = (if s.e then pulledByte s 0 ||| 0x30 else pulledByte s 0) ∧
    t.x = (if t.flag .x then (lowByte s.x).setWidth 16 else s.x) ∧
    t.y = (if t.flag .x then (lowByte s.y).setWidth 16 else s.y) ∧
    t.pc = pulledWord s 1 ∧
    t.pb = (if s.e then s.pb else pulledByte s 3) ∧
    t.sp = stackMoved s (if s.e then 3 else 4) ∧
    t = { s with p := t.p, x := t.x, y := t.y, pc := t.pc, pb := t.pb, sp := t.sp }

/-- R447, R448: from a state that meets the emulation and index invariants, `RTI` straight after trap entry gives
back every register, the status and the address to resume at; only memory differs, in the four slots pushed, or the
three of emulation mode. There the bank is not saved, so it must be the bank 0 that entry leaves. -/
def Obligations.ReturnUndoesTrapEntry : Prop :=
  ∀ (k : Trap) (s : State), s.EmulationInv → s.IndexInv → (s.e = true → s.pb = 0) →
    ∃ t, exec .rti (s.trapEnter k) = .next t ∧ t = { s with mem := t.mem } ∧
      ∀ a, (∀ n, n < (if s.e then 3 else 4) → a ≠ pushSlot s n) → memByte t.mem a = memByte s.mem a

/-! The whole machine. -/

/-- Every step, of the CPU or of the host, keeps the invariant: the emulation-mode invariants, zero index high bytes
when `x8`, canonical memories, ring cursors inside the ring (R23, R24, R28, R416; log entries 1, 2, 3). -/
def Obligations.StepKeepsInvariant : Prop := ∀ s t : State, s.Inv → step s = .next t → t.Inv

/-- The state after reset has the invariant. -/
def Obligations.ResetHasInvariant : Prop := State.reset.Inv

/-- Every instruction completes from every state and leaves the coprocessor, the host's fields, the configuration and
the interrupt inputs alone, except that `ADC` and `SBC` are refused when the configuration refuses decimal arithmetic
(R163, R164, R441; log entry 11). -/
def Obligations.InstructionsComplete : Prop :=
  ∀ (i : Instr) (s : State),
    (DecimalRefused i s → exec i s = .refused .decimalModeRefuses) ∧
    (¬ DecimalRefused i s → ∃ t, exec i s = .next t ∧ SurroundingsKept s t)

/-- R29: `E` is written by `XCE`, which exchanges it with the carry, and set by reset; nothing else writes it. -/
def Obligations.OnlyExchangeWritesE : Prop :=
  (∀ (i : Instr) (s t : State), exec i s = .next t → i ≠ .xce → t.e = s.e) ∧
  (∀ s : State, ∃ t, exec .xce s = .next t ∧ t.e = s.flag .c ∧ t.flag .c = s.e) ∧
  (∀ (k : Trap) (s : State), (s.trapEnter k).e = s.e) ∧
  (∀ (s : State) (draw : ResetDraw), (s.cpuReset draw).e = true) ∧ State.reset.e = true

/-- R25: which instructions write which register, `E`, `run` and memory; every other one leaves it alone. -/
def Obligations.RegisterWriters : Prop :=
  ∀ (i : Instr) (s t : State), exec i s = .next t →
    (¬ writesC i → t.c = s.c) ∧ (¬ writesX i → t.x = s.x) ∧ (¬ writesY i → t.y = s.y) ∧
    (¬ writesS i → t.sp = s.sp) ∧ (¬ opcodeIn i [0x5B, 0x2B] → t.d = s.d) ∧
    (¬ opcodeIn i [0xAB, 0x54, 0x44] → t.db = s.db) ∧
    (¬ opcodeIn i [0x5C, 0xDC, 0x22, 0x6B, 0x40, 0x00, 0x02] → t.pb = s.pb) ∧
    (¬ opcodeIn i [0xFB] → t.e = s.e) ∧ (¬ opcodeIn i [0xCB, 0xDB] → t.run = s.run) ∧
    (¬ writesMemory i → t.mem = s.mem)

/-- R27: which instructions write which flag; every other one leaves it alone. -/
def Obligations.FlagWriters : Prop :=
  ∀ (i : Instr) (s t : State) (f : Flag), exec i s = .next t → ¬ writesFlag i f → t.flag f = s.flag f

/-! Arithmetic, logic, compare. -/

/-- R163, R173(b): `ADC` in binary. -/
def Obligations.AdcBinary : Prop :=
  ∀ (i : Instr) (o : DataOperand) (s : State), i.dataForm = some (.adc, o) →
    (s.flag .d = false ∨ s.config.decimalMode = .binary) →
    let w := s.mw
    let a := regValue w s.c
    let m := operandValue s .adc o
    let carry := (s.flag .c).toNat
    let r := (a + m + carry) % 2 ^ w.bits
    ∃ t, exec i s = .next t ∧ AccHolds s t w r ∧ ShowsNZ t w r ∧
      t.flag .c = decide (2 ^ w.bits ≤ a + m + carry) ∧
      t.flag .v = overflows w (signedOf w a + signedOf w m + carry) ∧
      FlagsKept s t [.n, .v, .z, .c] ∧ t = { s with c := t.c, p := t.p }

/-- R164, R173(c): `SBC` in binary; the carry is "no borrow". -/
def Obligations.SbcBinary : Prop :=
  ∀ (i : Instr) (o : DataOperand) (s : State), i.dataForm = some (.sbc, o) →
    (s.flag .d = false ∨ s.config.decimalMode = .binary) →
    let w := s.mw
    let a := regValue w s.c
    let m := operandValue s .sbc o
    let borrow := 1 - (s.flag .c).toNat
    let r := (a + 2 ^ w.bits - (m + borrow)) % 2 ^ w.bits
    ∃ t, exec i s = .next t ∧ AccHolds s t w r ∧ ShowsNZ t w r ∧
      t.flag .c = decide (m + borrow ≤ a) ∧
      t.flag .v = overflows w (signedOf w a - signedOf w m - borrow) ∧
      FlagsKept s t [.n, .v, .z, .c] ∧ t = { s with c := t.c, p := t.p }

/-- R162: on operands whose digits are all 0 to 9, decimal `ADC` and `SBC` give the decimal sum and difference and the
decimal carry. `V` is free (log entry 10): nothing is said of it. -/
def Obligations.DecimalArithmetic : Prop :=
  ∀ (i : Instr) (o : DataOperand) (s : State), s.flag .d = true → s.config.decimalMode = .bcd →
    let w := s.mw
    let n := digitCount w
    let a := regValue w s.c
    (i.dataForm = some (.adc, o) → AllDigits w a → AllDigits w (operandValue s .adc o) →
      let total := decimalValue a n + decimalValue (operandValue s .adc o) n + (s.flag .c).toNat
      ∃ t r, exec i s = .next t ∧ AfterDecimal s t r ∧ AllDigits w r ∧ decimalValue r n = total % 10 ^ n ∧
        t.flag .c = decide (10 ^ n ≤ total)) ∧
    (i.dataForm = some (.sbc, o) → AllDigits w a → AllDigits w (operandValue s .sbc o) →
      let less := decimalValue (operandValue s .sbc o) n + (1 - (s.flag .c).toNat)
      ∃ t r, exec i s = .next t ∧ AfterDecimal s t r ∧ AllDigits w r ∧
        decimalValue r n = (decimalValue a n + 10 ^ n - less) % 10 ^ n ∧
        t.flag .c = decide (less ≤ decimalValue a n))

/-- The model's choice (log entry 10) where R162 refuses to state a value: on any operands, other digits too, decimal
`ADC` and `SBC` run; N and Z are those of whatever result stands in the accumulator, and nothing else changes. -/
def Obligations.DecimalRunsOnAnyDigits : Prop :=
  ∀ (i : Instr) (o : DataOperand) (s : State), s.flag .d = true → s.config.decimalMode = .bcd →
    (i.dataForm = some (.adc, o) ∨ i.dataForm = some (.sbc, o)) → ∃ t r, exec i s = .next t ∧ AfterDecimal s t r

/-- R165, R166, R167: `AND`, `ORA`, `EOR`. -/
def Obligations.LogicInstructions : Prop :=
  ∀ (i : Instr) (op : DataOp) (o : DataOperand) (s : State) (r : Nat), i.dataForm = some (op, o) →
    logicValue op (regValue s.mw s.c) (operandValue s op o) = some r →
    ∃ t, exec i s = .next t ∧ AccHolds s t s.mw r ∧ ShowsNZ t s.mw r ∧ FlagsKept s t [.n, .z] ∧
      t = { s with c := t.c, p := t.p }

/-- R168 to R171: the compares; no register and no other flag changes. -/
def Obligations.CompareInstructions : Prop :=
  ∀ (i : Instr) (op : DataOp) (o : DataOperand) (s : State) (reg : Word), i.dataForm = some (op, o) →
    comparedRegister s op = some reg →
    let w := dataWidth s op
    let r := regValue w reg
    let m := operandValue s op o
    ∃ t, exec i s = .next t ∧ t.flag .c = decide (m ≤ r) ∧ t.flag .z = decide (r = m) ∧
      t.flag .n = decide (2 ^ (w.bits - 1) ≤ (r + 2 ^ w.bits - m) % 2 ^ w.bits) ∧
      FlagsKept s t [.n, .z, .c] ∧ t = { s with p := t.p }

/-- R172: `BIT`; the immediate form changes Z only. -/
def Obligations.BitInstruction : Prop :=
  ∀ (i : Instr) (o : DataOperand) (s : State), i.dataForm = some (.bit, o) →
    let m := operandValue s .bit o
    ∃ t, exec i s = .next t ∧ t.flag .z = decide (regValue s.mw s.c &&& m = 0) ∧
      (∀ mode, o = .mem mode → t.flag .n = m.testBit (s.mw.bits - 1) ∧ t.flag .v = m.testBit (s.mw.bits - 2) ∧
        FlagsKept s t [.n, .v, .z]) ∧
      (∀ imm, o = .imm imm → FlagsKept s t [.z]) ∧ t = { s with p := t.p }

/-! Operands and addresses. -/

/-- R160: an operand is the immediate's own bytes, one or two by the width, or the bytes at the effective address. -/
def Obligations.OperandIsRead : Prop :=
  (∀ (s : State) (op : DataOp) (imm : Immediate), s.nextInstr.1.dataForm = some (op, .imm imm) →
    operandValue s op (.imm imm) =
      (s.codeByte 1).toNat + (if dataWidth s op = .word then 256 * (s.codeByte 2).toNat else 0)) ∧
  (∀ (s : State) (op : DataOp) (mode : AddrMode), operandValue s op (.mem mode) = dataAt s (s.ea mode) (dataWidth s op))

/-- R122 to R127: the absolute modes, with `IndexAdd` under both values of `INDEX_CARRIES_INTO_BANK`. -/
def Obligations.AbsoluteAddresses : Prop :=
  ∀ (s : State) (a : Word) (al : Addr),
    let base := 65536 * s.db.toNat + a.toNat
    (s.ea (.abs a)).toNat = base ∧
    (s.ea (.absX a)).toNat =
      (if s.config.indexCarriesIntoBank then (base + s.x.toNat) % 2 ^ 24
        else 65536 * s.db.toNat + (a.toNat + s.x.toNat) % 65536) ∧
    (s.ea (.absY a)).toNat =
      (if s.config.indexCarriesIntoBank then (base + s.y.toNat) % 2 ^ 24
        else 65536 * s.db.toNat + (a.toNat + s.y.toNat) % 65536) ∧
    s.ea (.long al) = al ∧
    (s.ea (.longX al)).toNat = (al.toNat + s.x.toNat) % 2 ^ 24

/-- R128 to R137: the direct-page and stack-relative modes. -/
def Obligations.DirectPageAddresses : Prop :=
  ∀ (s : State) (d : Byte),
    let page := s.d.toNat + d.toNat
    let bank := 65536 * s.db.toNat
    let indexed := fun ptr : Nat =>
      if s.config.indexCarriesIntoBank then (bank + ptr + s.y.toNat) % 2 ^ 24 else bank + (ptr + s.y.toNat) % 65536
    (s.ea (.dp d)).toNat = page % 65536 ∧
    (s.ea (.dpX d)).toNat = (page + s.x.toNat) % 65536 ∧
    (s.ea (.dpY d)).toNat = (page + s.y.toNat) % 65536 ∧
    (s.ea (.dpInd d)).toNat = bank + word0 s page ∧
    (s.ea (.dpIndX d)).toNat = bank + word0 s (page + s.x.toNat) ∧
    (s.ea (.dpIndY d)).toNat = indexed (word0 s page) ∧
    (s.ea (.dpIndLong d)).toNat = long0 s page ∧
    (s.ea (.dpIndLongY d)).toNat = (long0 s page + s.y.toNat) % 2 ^ 24 ∧
    (s.ea (.sr d)).toNat = (s.sp.toNat + d.toNat) % 65536 ∧
    (s.ea (.srIndY d)).toNat = indexed (word0 s (s.sp.toNat + d.toNat))

/-! Shifts, counts, bit tests. -/

/-- R190 to R194: the shifts and rotates, on the accumulator and on memory. -/
def Obligations.ShiftsAndRotates : Prop :=
  ∀ (i : Instr) (op : RmwOp) (target : RmwTarget) (s : State) (r : Nat) (carry : Bool),
    i.rmwForm = some (op, target) →
    shiftResult s.mw (s.flag .c).toNat (targetValue s target) op = some (r, carry) →
    ∃ t, exec i s = .next t ∧ Modified s t r target ∧ t.flag .c = carry ∧ ShowsNZ t s.mw r ∧
      FlagsKept s t [.n, .z, .c]

/-- R195 to R200: the increments and decrements, of the accumulator, of memory and of the index registers; no carry. -/
def Obligations.IncrementsAndDecrements : Prop :=
  (∀ (i : Instr) (op : RmwOp) (target : RmwTarget) (s : State) (r : Nat), i.rmwForm = some (op, target) →
    countResult s.mw (targetValue s target) op = some r →
    ∃ t, exec i s = .next t ∧ Modified s t r target ∧ ShowsNZ t s.mw r ∧ FlagsKept s t [.n, .z]) ∧
  (∀ s : State, ∀ i ∈ [Instr.inx, Instr.dex], ∃ t, exec i s = .next t ∧
    t.x.toNat = (s.x.toNat + (if i = .inx then 1 else 2 ^ s.xw.bits - 1)) % 2 ^ s.xw.bits ∧
    ShowsNZ t s.xw t.x.toNat ∧ FlagsKept s t [.n, .z] ∧ t = { s with x := t.x, p := t.p }) ∧
  (∀ s : State, ∀ i ∈ [Instr.iny, Instr.dey], ∃ t, exec i s = .next t ∧
    t.y.toNat = (s.y.toNat + (if i = .iny then 1 else 2 ^ s.xw.bits - 1)) % 2 ^ s.xw.bits ∧
    ShowsNZ t s.xw t.y.toNat ∧ FlagsKept s t [.n, .z] ∧ t = { s with y := t.y, p := t.p })

/-- R201, R202: `TSB` and `TRB`; Z is of the old memory value. -/
def Obligations.TestAndSetBits : Prop :=
  ∀ (i : Instr) (op : TestOp) (mode : AddrMode) (s : State), i.testForm = some (op, mode) →
    let w := s.mw
    let a := regValue w s.c
    let v := dataAt s (s.ea mode) w
    ∃ t, exec i s = .next t ∧
      Stored s t (s.ea mode) w (match op with
        | .tsb => v ||| a
        | .trb => Nat.ldiff v a) ∧
      t.flag .z = decide (a &&& v = 0) ∧ FlagsKept s t [.z] ∧ t = { s with mem := t.mem, p := t.p }

/-! Control transfer. -/

/-- R220 to R229: a branch moves `PC`, from the next instruction's address, exactly when its predicate holds, and
wraps in the bank; nothing else changes. -/
def Obligations.Branches : Prop :=
  ∀ (i : Instr) (cond : BranchCond) (rel : Byte) (s : State), i.branchForm = some (cond, rel) →
    ∃ t, exec i s = .next t ∧
      (branchHolds s cond → (t.pc.toNat : Int) = ((s.pc.toNat : Int) + rel.toInt) % 65536) ∧
      (¬ branchHolds s cond → t.pc = s.pc) ∧ t = { s with pc := t.pc }

/-- R230, R231, R232: `BRL`, `JMP` and `JML`, with their pointers; `PB` changes only for `JML`. -/
def Obligations.Jumps : Prop :=
  ∀ (s : State) (a rel : Word) (al : Addr),
    (∃ t, exec (.brl rel) s = .next t ∧ t.pc.toNat = (s.pc.toNat + rel.toNat) % 65536 ∧ t = { s with pc := t.pc }) ∧
    (∃ t, exec (.jmpAbs a) s = .next t ∧ t.pc = a ∧ t = { s with pc := t.pc }) ∧
    (∃ t, exec (.jmpInd a) s = .next t ∧ t.pc.toNat = word0 s a.toNat ∧ t = { s with pc := t.pc }) ∧
    (∃ t, exec (.jmpIndX a) s = .next t ∧
      t.pc.toNat = byteAt s (65536 * s.pb.toNat + (a.toNat + s.x.toNat) % 65536) +
        256 * byteAt s (65536 * s.pb.toNat + (a.toNat + s.x.toNat + 1) % 65536) ∧
      t = { s with pc := t.pc }) ∧
    (∃ t, exec (.jmlLong al) s = .next t ∧ 65536 * t.pb.toNat + t.pc.toNat = al.toNat ∧
      t = { s with pc := t.pc, pb := t.pb }) ∧
    (∃ t, exec (.jmlIndLong a) s = .next t ∧ 65536 * t.pb.toNat + t.pc.toNat = long0 s a.toNat ∧
      t = { s with pc := t.pc, pb := t.pb })

/-- R233, R234: `JSR` and `JSL` push the address of their last byte, high byte first, `JSL` the bank before it. -/
def Obligations.Calls : Prop :=
  ∀ (s : State) (a : Word) (al : Addr),
    let back := [highByte (s.pc - 1), lowByte (s.pc - 1)]
    (∃ t, exec (.jsrAbs a) s = .next t ∧ Pushed s t back ∧ t.pc = a ∧
      t = { s with sp := t.sp, mem := t.mem, pc := t.pc }) ∧
    (∃ t, exec (.jsrIndX a) s = .next t ∧ Pushed s t back ∧
      t.pc.toNat = byteAt s (65536 * s.pb.toNat + (a.toNat + s.x.toNat) % 65536) +
        256 * byteAt s (65536 * s.pb.toNat + (a.toNat + s.x.toNat + 1) % 65536) ∧
      t = { s with sp := t.sp, mem := t.mem, pc := t.pc }) ∧
    (∃ t, exec (.jsl al) s = .next t ∧ Pushed s t (s.pb :: back) ∧ 65536 * t.pb.toNat + t.pc.toNat = al.toNat ∧
      t = { s with sp := t.sp, mem := t.mem, pc := t.pc, pb := t.pb })

/-- R235, R236: `RTS` and `RTL` pull the address and add one, without a carry into the bank. -/
def Obligations.Returns : Prop :=
  ∀ s : State,
    (∃ t, exec .rts s = .next t ∧ t.pc.toNat = ((pulledWord s 0).toNat + 1) % 65536 ∧ t.sp = stackMoved s 2 ∧
      t = { s with sp := t.sp, pc := t.pc }) ∧
    (∃ t, exec .rtl s = .next t ∧ t.pc.toNat = ((pulledWord s 0).toNat + 1) % 65536 ∧ t.pb = pulledByte s 2 ∧
      t.sp = stackMoved s 3 ∧ t = { s with sp := t.sp, pc := t.pc, pb := t.pb })

/-- R235, R240: a return straight after its call resumes at the instruction after the call with every register as it
was, for every address and every stack pointer; only the bytes pushed differ in memory. -/
def Obligations.ReturnUndoesCall : Prop :=
  ∀ (s t : State) (i : Instr),
    (((∃ a, i = .jsrAbs a) ∨ ∃ a, i = .jsrIndX a) → exec i s = .next t →
      ∃ u, exec .rts t = .next u ∧ u = { s with mem := u.mem } ∧
        ∀ a, (∀ k, k < 2 → a ≠ pushSlot s k) → memByte u.mem a = memByte s.mem a) ∧
    ((∃ al, i = .jsl al) → exec i s = .next t →
      ∃ u, exec .rtl t = .next u ∧ u = { s with mem := u.mem } ∧
        ∀ a, (∀ k, k < 3 → a ≠ pushSlot s k) → memByte u.mem a = memByte s.mem a)

/-! Stack. -/

/-- R264 to R270, R277 to R279: what every push instruction pushes, in order; nothing else changes. `PHP` pushes `P` as
it stands in every state; under the emulation-mode invariant that byte has bits 5 and 4 at 1 (R28, R270), and where
the invariant fails it is log entry 17's reading. -/
def Obligations.Pushes : Prop :=
  (∀ (i : Instr) (s : State) (bytes : List Byte), pushedBytes s i = some bytes →
    ∃ t, exec i s = .next t ∧ Pushed s t bytes ∧ t = { s with sp := t.sp, mem := t.mem }) ∧
  (∀ s : State, s.EmulationInv → s.e = true → ∃ t, exec .php s = .next t ∧
    (memByte t.mem (pushSlot s 0)).getLsbD 5 = true ∧ (memByte t.mem (pushSlot s 0)).getLsbD 4 = true)

/-- R271 to R276: what every pull instruction pulls, in its width, and the flags of the data registers. -/
def Obligations.Pulls : Prop :=
  ∀ s : State,
    let pulled := fun w : Width => match w with
      | .byte => (pulledByte s 0).toNat
      | .word => (pulledWord s 0).toNat
    (∃ t, exec .pla s = .next t ∧ AccHolds s t s.mw (pulled s.mw) ∧ ShowsNZ t s.mw (pulled s.mw) ∧
      FlagsKept s t [.n, .z] ∧ t.sp = stackMoved s s.mw.bytes ∧ t = { s with c := t.c, p := t.p, sp := t.sp }) ∧
    (∃ t, exec .plx s = .next t ∧ t.x.toNat = pulled s.xw ∧ ShowsNZ t s.xw (pulled s.xw) ∧
      FlagsKept s t [.n, .z] ∧ t.sp = stackMoved s s.xw.bytes ∧ t = { s with x := t.x, p := t.p, sp := t.sp }) ∧
    (∃ t, exec .ply s = .next t ∧ t.y.toNat = pulled s.xw ∧ ShowsNZ t s.xw (pulled s.xw) ∧
      FlagsKept s t [.n, .z] ∧ t.sp = stackMoved s s.xw.bytes ∧ t = { s with y := t.y, p := t.p, sp := t.sp }) ∧
    (∃ t, exec .plb s = .next t ∧ t.db = pulledByte s 0 ∧ ShowsNZ t .byte (pulled .byte) ∧
      FlagsKept s t [.n, .z] ∧ t.sp = stackMoved s 1 ∧ t = { s with db := t.db, p := t.p, sp := t.sp }) ∧
    (∃ t, exec .pld s = .next t ∧ t.d = pulledWord s 0 ∧ ShowsNZ t .word (pulled .word) ∧
      FlagsKept s t [.n, .z] ∧ t.sp = stackMoved s 2 ∧ t = { s with d := t.d, p := t.p, sp := t.sp }) ∧
    (∃ t, exec .plp s = .next t ∧ t.p = (if s.e then pulledByte s 0 ||| 0x30 else pulledByte s 0) ∧
      t.x = (if t.flag .x then (lowByte s.x).setWidth 16 else s.x) ∧
      t.y = (if t.flag .x then (lowByte s.y).setWidth 16 else s.y) ∧
      t.sp = stackMoved s 1 ∧ t = { s with p := t.p, x := t.x, y := t.y, sp := t.sp })

/-! Loads, stores, transfers. -/

/-- R290, R291, R292: the loads, each in its own width. -/
def Obligations.Loads : Prop :=
  ∀ (i : Instr) (o : DataOperand) (s : State),
    (i.dataForm = some (.lda, o) → ∃ t, exec i s = .next t ∧ AccHolds s t s.mw (operandValue s .lda o) ∧
      ShowsNZ t s.mw (operandValue s .lda o) ∧ FlagsKept s t [.n, .z] ∧ t = { s with c := t.c, p := t.p }) ∧
    (i.dataForm = some (.ldx, o) → ∃ t, exec i s = .next t ∧ t.x.toNat = operandValue s .ldx o ∧
      ShowsNZ t s.xw (operandValue s .ldx o) ∧ FlagsKept s t [.n, .z] ∧ t = { s with x := t.x, p := t.p }) ∧
    (i.dataForm = some (.ldy, o) → ∃ t, exec i s = .next t ∧ t.y.toNat = operandValue s .ldy o ∧
      ShowsNZ t s.xw (operandValue s .ldy o) ∧ FlagsKept s t [.n, .z] ∧ t = { s with y := t.y, p := t.p })

/-- R293 to R296: the stores write the register's bytes at the effective address and change nothing else. -/
def Obligations.Stores : Prop :=
  ∀ (i : Instr) (op : StoreOp) (mode : AddrMode) (s : State), i.storeForm = some (op, mode) →
    ∃ t, exec i s = .next t ∧ Stored s t (s.ea mode) (storeValue s op).2 (storeValue s op).1 ∧
      t = { s with mem := t.mem }

/-- R297 to R303: the transfers between A, X, Y and from S, in the destination's width. -/
def Obligations.Transfers : Prop :=
  ∀ s : State,
    (∃ t, exec .tax s = .next t ∧ t.x.toNat = regValue s.xw s.c ∧ ShowsNZ t s.xw t.x.toNat ∧
      FlagsKept s t [.n, .z] ∧ t = { s with x := t.x, p := t.p }) ∧
    (∃ t, exec .tyx s = .next t ∧ t.x.toNat = regValue s.xw s.y ∧ ShowsNZ t s.xw t.x.toNat ∧
      FlagsKept s t [.n, .z] ∧ t = { s with x := t.x, p := t.p }) ∧
    (∃ t, exec .tsx s = .next t ∧ t.x.toNat = regValue s.xw s.sp ∧ ShowsNZ t s.xw t.x.toNat ∧
      FlagsKept s t [.n, .z] ∧ t = { s with x := t.x, p := t.p }) ∧
    (∃ t, exec .tay s = .next t ∧ t.y.toNat = regValue s.xw s.c ∧ ShowsNZ t s.xw t.y.toNat ∧
      FlagsKept s t [.n, .z] ∧ t = { s with y := t.y, p := t.p }) ∧
    (∃ t, exec .txy s = .next t ∧ t.y.toNat = regValue s.xw s.x ∧ ShowsNZ t s.xw t.y.toNat ∧
      FlagsKept s t [.n, .z] ∧ t = { s with y := t.y, p := t.p }) ∧
    (∃ t, exec .txa s = .next t ∧ AccHolds s t s.mw (regValue s.mw s.x) ∧ ShowsNZ t s.mw (regValue s.mw s.x) ∧
      FlagsKept s t [.n, .z] ∧ t = { s with c := t.c, p := t.p }) ∧
    (∃ t, exec .tya s = .next t ∧ AccHolds s t s.mw (regValue s.mw s.y) ∧ ShowsNZ t s.mw (regValue s.mw s.y) ∧
      FlagsKept s t [.n, .z] ∧ t = { s with c := t.c, p := t.p })

/-- R304 to R309: the transfers with S and D, 16 bits whatever `m8`, and `XBA`. -/
def Obligations.WideTransfers : Prop :=
  ∀ s : State,
    (∃ t, exec .txs s = .next t ∧ lowByte t.sp = lowByte s.x ∧
      highByte t.sp = (if s.e then highByte s.sp else highByte s.x) ∧ t = { s with sp := t.sp }) ∧
    (∃ t, exec .tcs s = .next t ∧ lowByte t.sp = lowByte s.c ∧
      highByte t.sp = (if s.e then highByte s.sp else highByte s.c) ∧ t = { s with sp := t.sp }) ∧
    (∃ t, exec .tcd s = .next t ∧ t.d = s.c ∧ ShowsNZ t .word s.c.toNat ∧ FlagsKept s t [.n, .z] ∧
      t = { s with d := t.d, p := t.p }) ∧
    (∃ t, exec .tdc s = .next t ∧ t.c = s.d ∧ ShowsNZ t .word s.d.toNat ∧ FlagsKept s t [.n, .z] ∧
      t = { s with c := t.c, p := t.p }) ∧
    (∃ t, exec .tsc s = .next t ∧ t.c = s.sp ∧ ShowsNZ t .word s.sp.toNat ∧ FlagsKept s t [.n, .z] ∧
      t = { s with c := t.c, p := t.p }) ∧
    (∃ t, exec .xba s = .next t ∧ lowByte t.c = highByte s.c ∧ highByte t.c = lowByte s.c ∧
      ShowsNZ t .byte (highByte s.c).toNat ∧ FlagsKept s t [.n, .z] ∧ t = { s with c := t.c, p := t.p })

/-! Status, mode, no-operations, block moves. -/

/-- R330 to R336: the single-flag instructions. -/
def Obligations.FlagInstructions : Prop :=
  ∀ (i : Instr) (f : Flag) (b : Bool) (s : State), i.flagForm = some (f, b) →
    ∃ t, exec i s = .next t ∧ t.flag f = b ∧ FlagsKept s t [f] ∧ t = { s with p := t.p }

/-- R337, R338: `REP` clears and `SEP` sets the flags of the mask; in emulation mode M and X stay 1; an X of 1 clears
the index high bytes. -/
def Obligations.StatusMasks : Prop :=
  ∀ (mask : Byte) (s : State), ∀ i ∈ [Instr.rep mask, Instr.sep mask],
    ∃ t, exec i s = .next t ∧
      (∀ f, t.flag f =
        if s.e = true ∧ (f = .m ∨ f = .x) then true
        else if mask.getLsbD (flagBit f) then decide (i = .sep mask) else s.flag f) ∧
      t.x = (if t.flag .x then (lowByte s.x).setWidth 16 else s.x) ∧
      t.y = (if t.flag .x then (lowByte s.y).setWidth 16 else s.y) ∧
      t = { s with p := t.p, x := t.x, y := t.y }

/-- R345: `XCE` exchanges C and E; a new E of 1 forces M, X, the index high bytes and `SH`. -/
def Obligations.ExchangeCarryAndEmulation : Prop :=
  ∀ s : State, ∃ t, exec .xce s = .next t ∧ t.e = s.flag .c ∧ t.flag .c = s.e ∧
    (t.e = true → FlagsKept s t [.c, .m, .x] ∧ t.flag .m = true ∧ t.flag .x = true ∧
      t.x = (lowByte s.x).setWidth 16 ∧ t.y = (lowByte s.y).setWidth 16 ∧ t.sp = word16 (lowByte s.sp) 0x01 ∧
      t = { s with e := t.e, p := t.p, x := t.x, y := t.y, sp := t.sp }) ∧
    (t.e = false → FlagsKept s t [.c] ∧ t = { s with e := t.e, p := t.p })

/-- R346, R347: `NOP` changes nothing; `WDM` is one byte and a report when `$42` is not in K, two bytes and nothing
else when it is. -/
def Obligations.NoOperations : Prop :=
  ∀ (s : State) (operand : Option Byte),
    exec .nop s = .next s ∧
    (s.config.knows 0x42 = true → exec (.wdm operand) s = .next s) ∧
    (s.config.knows 0x42 = false →
      exec (.wdm operand) s = .next { s with reports := s.reports ++ [⟨0x42, s.pb, s.pc - 1⟩] }) ∧
    (∀ m x b1 b2 b3, decodeBytes ⟨m, x, true⟩ 0x42 b1 b2 b3 = (.wdm (some b1), 2) ∧
      decodeBytes ⟨m, x, false⟩ 0x42 b1 b2 b3 = (.wdm none, 1))

/-- R351, R352, R353: one step of a block move, ascending for `MVN` and descending for `MVP`. -/
def Obligations.BlockMoveStep : Prop :=
  ∀ (dst src : Byte) (s : State), ∀ i ∈ [Instr.mvn dst src, Instr.mvp dst src],
    let delta := if i = .mvn dst src then 1 else 2 ^ s.xw.bits - 1
    ∃ t, exec i s = .next t ∧ t.db = dst ∧
      Stored s t (addr24 dst s.y) .byte (memByte s.mem (addr24 src s.x)).toNat ∧
      t.x.toNat = (s.x.toNat + delta) % 2 ^ s.xw.bits ∧ t.y.toNat = (s.y.toNat + delta) % 2 ^ s.xw.bits ∧
      t.c.toNat = (s.c.toNat + 65535) % 65536 ∧
      (t.c = 0xFFFF → t.pc = s.pc) ∧ (t.c ≠ 0xFFFF → t.pc = s.pc - 3) ∧
      t = { s with db := t.db, mem := t.mem, x := t.x, y := t.y, c := t.c, pc := t.pc }

/-- R351: a block move takes exactly `C + 1` steps: until then `PC` is back on the opcode, and after them the move has
fallen through with `C = $FFFF`, the indexes moved by `C + 1` and `DB` the destination bank; it writes only there. -/
def Obligations.BlockMoveTakesCPlusOneSteps : Prop :=
  ∀ (dst src : Byte) (s : State), ∀ i ∈ [Instr.mvn dst src, Instr.mvp dst src],
    let delta := if i = .mvn dst src then 1 else 2 ^ s.xw.bits - 1
    let count := s.c.toNat + 1
    (∀ n, n < count → ∃ t, runSame i n s = .next t ∧ t.pc = s.pc) ∧
    (∃ t, runSame i count s = .next t ∧ t.pc = s.pc + 3 ∧ t.c = 0xFFFF ∧ t.db = dst ∧
      t.x.toNat = (s.x.toNat + count * delta) % 2 ^ s.xw.bits ∧
      t.y.toNat = (s.y.toNat + count * delta) % 2 ^ s.xw.bits ∧
      (∀ a, bankOf a ≠ dst → memByte t.mem a = memByte s.mem a) ∧
      t = { s with db := t.db, mem := t.mem, x := t.x, y := t.y, c := t.c, pc := t.pc })

/-! Reset. -/

/-- R470, R36: what CPU reset leaves, from any state and at power-on, and that it changes no memory and nothing
outside the CPU. -/
def Obligations.CpuResetValues : Prop :=
  (∀ (s : State) (draw : ResetDraw) (rest : List HostAction), s.hostQueue = .reset draw :: rest →
    ∃ t, step s = .next t ∧ CpuAfterReset t ∧ t.mem = s.mem ∧ t.apu = s.apu ∧ t.irqLine = s.irqLine ∧
      t.config = s.config ∧ t.readCursor = s.readCursor ∧ t.hostQueue = rest) ∧
  CpuAfterReset State.reset

/-- R389, R422: what APU reset leaves, from any state and at power-on; ARAM keeps its contents and the CPU is not
touched. -/
def Obligations.ApuResetValues : Prop :=
  (∀ (s : State) (ring : Ring) (rest : List HostAction), s.hostQueue = .apuReset ring :: rest →
    ∃ t, step s = .next t ∧ ApuAfterReset s.config t.apu ∧ t.apu.aram = s.apu.aram ∧
      t = { s with apu := t.apu, hostQueue := rest }) ∧
  ApuAfterReset State.reset.config State.reset.apu

/-! The coprocessor. -/

/-- R371: all three timers tick at once; an enabled timer counts modulo 256 and on its target reloads to 0 and counts a
firing modulo 16; started from 0 it fires every `target` steps, every 256 for target 0; a timer that is not enabled
does not move. -/
def Obligations.TimerFiresEveryTarget : Prop :=
  (∀ (a : Apu) (t : Fin 3), (a.tickTimers.timer t) = (a.timer t).tick ∧
    a.tickTimers = { a with timers := a.tickTimers.timers }) ∧
  ∀ (timer : Timer) (n : Nat),
    (timer.enabled = true →
      let next := (timer.counter.toNat + 1) % 256
      timer.tick =
        { timer with
          counter := BitVec.ofNat 8 (if next = timer.target.toNat then 0 else next)
          out := BitVec.ofNat 4 (if next = timer.target.toNat then timer.out.toNat + 1 else timer.out.toNat) }) ∧
    (timer.enabled = true → timer.counter = 0 →
      applyTimes Timer.tick n timer =
        { timer with
          counter := BitVec.ofNat 8 (n % timerPeriod timer)
          out := timer.out + BitVec.ofNat 4 (n / timerPeriod timer) }) ∧
    (timer.enabled = false → applyTimes Timer.tick n timer = timer)

/-- R363, R372, R380, R381: the APU program's reads and writes, the I/O page address by address and plain ARAM
elsewhere; a timer output is cleared by its read. -/
def Obligations.ApuAddressMap : Prop :=
  ∀ (a : Apu) (v : Byte) (addr : Word) (t : Fin 3) (i : Fin 4),
    a.write 0xF0 v = a ∧
    ((a.write 0xF1 v).timer t =
      if v.getLsbD t.val = true ∧ (a.timer t).enabled = false then
        { a.timer t with enabled := true, counter := 0, out := 0 }
      else { a.timer t with enabled := v.getLsbD t.val }) ∧
    ((a.write 0xF1 v).inPorts[i] = if v.getLsbD (if i.val < 2 then 4 else 5) then 0 else a.inPorts[i]) ∧
    a.write 0xF1 v = { a with timers := (a.write 0xF1 v).timers, inPorts := (a.write 0xF1 v).inPorts } ∧
    a.write 0xF2 v = { a with dspAddr := v } ∧
    (a.dspAddr.toNat < 128 → a.write 0xF3 v = { a with dsp := a.dsp.write a.aram (BitVec.ofNat 7 a.dspAddr.toNat) v }) ∧
    (128 ≤ a.dspAddr.toNat → a.write 0xF3 v = a) ∧
    a.write (0xF4 + BitVec.ofNat 16 i.val) v = a.setOutPort i v ∧
    a.write (0xFA + BitVec.ofNat 16 t.val) v = a.setTimer t { a.timer t with target := v } ∧
    a.write (0xFD + BitVec.ofNat 16 t.val) v = a ∧
    (addr.toNat < 0xF0 ∨ addr = 0xF8 ∨ addr = 0xF9 ∨ 0xFF < addr.toNat →
      a.write addr v = { a with aram := aramPutByte a.aram addr v } ∧ a.read addr = (aramByte a.aram addr, a)) ∧
    a.read 0xF0 = (0, a) ∧ a.read 0xF1 = (0, a) ∧ a.read 0xF2 = (a.dspAddr, a) ∧
    a.read 0xF3 = (a.dsp.read (BitVec.ofNat 7 (a.dspAddr.toNat % 128)), a) ∧
    a.read (0xF4 + BitVec.ofNat 16 i.val) = (a.inPorts[i], a) ∧
    a.read (0xFA + BitVec.ofNat 16 t.val) = (0, a) ∧
    a.read (0xFD + BitVec.ofNat 16 t.val) =
      (BitVec.ofNat 8 (a.timer t).out.toNat, a.setTimer t { a.timer t with out := 0 })

/-- R75(d), R384, R454: a CPU step neither changes the coprocessor nor depends on it; a coprocessor cycle changes
nothing of the CPU. R382, R383: the host's write of a port is what the coprocessor's next read of it gives, and the
coprocessor's write what the host's next read gives; each changes that byte of its own direction only. -/
def Obligations.CpuAndApuAreSeparate : Prop :=
  (∀ (s : State) (a : Apu), CpuTurn s → step { s with apu := a } = withApu a (step s)) ∧
  (∀ (s : State) (rest : List HostAction), s.hostQueue = .cycle :: rest →
    ∃ t, step s = .next t ∧ t = { s with apu := t.apu, hostQueue := rest }) ∧
  (∀ (s : State) (i : Fin 4) (v : Byte) (rest : List HostAction), s.hostQueue = .writeInPort i v :: rest →
    ∃ t, step s = .next t ∧ (t.apu.read (0xF4 + BitVec.ofNat 16 i.val)) = (v, t.apu) ∧
      (∀ j : Fin 4, j ≠ i → t.apu.inPorts[j] = s.apu.inPorts[j]) ∧ (∀ j, t.outPort j = s.outPort j) ∧
      t = { s with hostQueue := rest, apu := { s.apu with inPorts := t.apu.inPorts } }) ∧
  (∀ (s : State) (i : Fin 4) (v : Byte),
    let t := { s with apu := s.apu.write (0xF4 + BitVec.ofNat 16 i.val) v }
    t.outPort i = v ∧ (∀ j, j ≠ i → t.outPort j = s.outPort j) ∧
      t = { s with apu := { s.apu with outPorts := t.apu.outPorts } })

/-- R385, R386: an uploaded block reads back byte for byte and changes nothing else of ARAM; a block that would overrun
the source, a zero-size block and a truncated header stop the upload with nothing written; blocks go one after
another. -/
def Obligations.UploadReadsBack : Prop :=
  (∀ (m : Memory) (addr : Word) (data : List Byte), 0 < data.length → data.length < 65536 →
    (∀ k (h : k < data.length), aramByte (upload m (uploadRecord addr data)) (addr + BitVec.ofNat 16 k) = data[k]) ∧
    (∀ a, (∀ k, k < data.length → a ≠ addr + BitVec.ofNat 16 k) →
      aramByte (upload m (uploadRecord addr data)) a = aramByte m a)) ∧
  (∀ (m : Memory) (addr : Word) (data rest : List Byte), 0 < data.length → data.length < 65536 →
    upload m (uploadRecord addr data ++ rest) = upload (upload m (uploadRecord addr data)) rest) ∧
  (∀ (m : Memory) (src : List Byte), src.length < 4 → upload m src = m) ∧
  (∀ (m : Memory) (s0 s1 a0 a1 : Byte) (rest : List Byte),
    (word16 s0 s1).toNat = 0 ∨ rest.length < (word16 s0 s1).toNat → upload m (s0 :: s1 :: a0 :: a1 :: rest) = m)

/-- R416: the DSP writes one ring entry every `STEPS_PER_SAMPLE` cycles, at the write cursor, and moves the cursor on,
modulo `RING_SIZE`; in between only the step count moves. R415: what the sample is mixed from. R410, R411, R412: how a
channel steps through its source samples, decodes them and ends a block. The output sample number that the envelope is
given is the model's counter (log entry 20). -/
def Obligations.SampleCadence : Prop :=
  (∀ (aram : Memory) (ch : Channel), Decoded aram ch (ch.decodeNext aram)) ∧
  (∀ (aram : Memory) (v : Fin 8) (d : Dsp), SourceTurn aram v d (d.sourceStep aram v)) ∧
  (∀ (aram : Memory) (v : Fin 8) (d : Dsp) (fuel : Nat), 20 ≤ fuel →
    let looped := pitchLoop (Dsp.sourceStep aram v) fuel ((d.channel v).frac.toNat + (d.channel v).pitch.toNat) d
    looped.2 < 0x1000 ∧ d.pitchStep aram v =
      looped.1.setChannel v { looped.1.channel v with frac := BitVec.ofNat 16 looped.2 }) ∧
  (∀ (aram : Memory) (d : Dsp), SampleProduced aram d (d.produceSample aram).1 (d.produceSample aram).2) ∧
  ∀ (cfg : Config) (aram : Memory) (d : Dsp),
    (d.stepCount + 1 < cfg.stepsPerSample → d.tick cfg aram = { d with stepCount := d.stepCount + 1 }) ∧
    (cfg.stepsPerSample ≤ d.stepCount + 1 →
      (d.tick cfg aram).stepCount = 0 ∧ (d.tick cfg aram).writeCursor = (d.writeCursor + 1) % cfg.ringSize ∧
      ringSample (d.tick cfg aram).ring d.writeCursor = (Dsp.produceSample aram { d with stepCount := 0 }).2 ∧
      ∀ k, k ≠ d.writeCursor → ringSample (d.tick cfg aram).ring k = ringSample d.ring k) ∧
    (∀ n, 0 < cfg.stepsPerSample → d.stepCount = 0 → d.writeCursor < cfg.ringSize →
      (applyTimes (Dsp.tick cfg aram) (n * cfg.stepsPerSample) d).stepCount = 0 ∧
      (applyTimes (Dsp.tick cfg aram) (n * cfg.stepsPerSample) d).writeCursor = (d.writeCursor + n) % cfg.ringSize)

/-- R414: in every step, of the CPU or of the host, a channel that is not keyed on stays silent and in release; and
when no channel is keyed on, the sample produced is (0, 0). -/
def Obligations.SilenceIsInvariant : Prop :=
  (∀ s t : State, s.apu.dsp.SilenceInv → step s = .next t → t.apu.dsp.SilenceInv) ∧
  State.reset.apu.dsp.SilenceInv ∧
  (∀ (aram : Memory) (d : Dsp), (∀ v, (d.channel v).keyOn = false) → (d.produceSample aram).2 = ⟨0, 0⟩)

/-- R405, R406: a write of KON starts each channel of its mask at the directory's address with a zero envelope and
clears its ENDX bit; a write of KOFF puts each channel of its mask in release; other channels are untouched. R402,
R403: what every other register does when it is written. R404: what every register reads as; that ENDX and OUTX stand
in fields of their own is the model's (log entry 19). -/
def Obligations.KeyOnAndKeyOff : Prop :=
  ∀ (aram : Memory) (d : Dsp) (mask : Byte) (v : Fin 8),
    ((d.write aram 0x4C mask).channel v =
      if mask.getLsbD v.val then
        { d.channel v with
          keyOn := true, phase := .attack, env := 0
          brrAddr := aramWord aram (word16 0 (d.reg 0x5D) + 4 * (d.channel v).srcn.setWidth 16)
          brrPos := 0, p1 := 0, p2 := 0, frac := 0 }
      else d.channel v) ∧
    ((d.write aram 0x4C mask).endx.getLsbD v.val = (d.endx.getLsbD v.val && !mask.getLsbD v.val)) ∧
    ((d.write aram 0x5C mask).channel v =
      if mask.getLsbD v.val then { d.channel v with phase := .release } else d.channel v) ∧
    (d.write aram 0x5C mask).endx = d.endx ∧
    ((d.write aram 0x6C mask).channel v =
      if mask.getLsbD 7 then { d.channel v with phase := .release, env := 0 } else d.channel v) ∧
    (d.write aram 0x7C mask).endx = 0 ∧
    (∀ (w : Fin 8) (k : Nat), k < 16 → channelReg w k ∉ [0x4C, 0x5C, 0x6C] →
      if w = v then FieldWritten k mask (d.channel v) ((d.write aram (channelReg w k) mask).channel v)
      else (d.write aram (channelReg w k) mask).channel v = d.channel v) ∧
    (∀ a, (d.write aram a mask).reg a = mask ∧ (∀ b, b ≠ a → (d.write aram a mask).reg b = d.reg b) ∧
      (a ∉ [0x4C, 0x7C] → (d.write aram a mask).endx = d.endx) ∧
      d.write aram a mask =
        { d with
          regs := (d.write aram a mask).regs
          channels := (d.write aram a mask).channels
          endx := (d.write aram a mask).endx }) ∧
    d.read 0x7C = d.endx ∧ (d.read (channelReg v 8)).toNat = (d.channel v).env.toNat / 16 ∧
    d.read (channelReg v 9) = (d.channel v).outx ∧
    (∀ a : BitVec 7, a ≠ 0x7C → a.toNat % 16 ≠ 8 → a.toNat % 16 ≠ 9 → d.read a = d.reg a)

/-- R406, R413: a channel in release falls by 8 each output sample and is silent and keyed off after at most 256 of
them, whatever its other settings and whichever samples they are. R413: what a step does in attack, decay, sustain and
GAIN mode, and the limits of `EnvelopeRate`, whose table is the model's free constant (log entry 9). -/
def Obligations.ReleaseReachesSilence : Prop :=
  RateLimits ∧ (∀ (n : Nat) (ch : Channel), EnvelopeSteps n ch (ch.envelopeStep n)) ∧
  ∀ (ch : Channel) (samples : List Nat), ch.phase = .release →
    let after := samples.foldl (fun c n => c.envelopeStep n) ch
    after.phase = .release ∧ after.env.toNat = ch.env.toNat - 8 * samples.length ∧
      (256 ≤ samples.length → after.env = 0 ∧ after.keyOn = false)

/-- R420, R421: after `NewFrame` the host may read exactly the entries from its cursor up to the boundary, none at or
past it, and draining brings the cursor there; what lies past the boundary the model refuses (log entry 18).
`ResetSampleBuffer` puts every cursor at 0, silences the ring and leaves nothing to read. -/
def Obligations.ReaderStopsAtBoundary : Prop :=
  (∀ (s : State) (rest : List HostAction), s.hostQueue = .resetSampleBuffer :: rest →
    ∃ t, step s = .next t ∧ t.sampleOffset = 0 ∧ t.frameBoundary = 0 ∧ t.apu.dsp.stepCount = 0 ∧ t.readCursor = 0 ∧
      (∀ k, ringSample t.apu.dsp.ring k = ⟨0, 0⟩) ∧ (∀ k, t.readSample k = none) ∧
      t =
        { s with
          hostQueue := rest
          readCursor := 0
          apu :=
            { s.apu with
              dsp := { s.apu.dsp with ring := t.apu.dsp.ring, writeCursor := 0, frameBoundary := 0, stepCount := 0 } } }) ∧
  ∀ s : State, s.RingInv → 0 < s.config.ringSize →
    (s.readCursor + s.readableCount) % s.config.ringSize = s.frameBoundary ∧
    (∀ k, k < s.readableCount → (s.readCursor + k) % s.config.ringSize ≠ s.frameBoundary ∧
      s.readSample k = some (ringSample s.apu.dsp.ring ((s.readCursor + k) % s.config.ringSize))) ∧
    (∀ k, s.readableCount ≤ k → s.readSample k = none) ∧
    (∀ rest, s.hostQueue = .newFrame :: rest →
      ∃ t, step s = .next t ∧ t.frameBoundary = s.sampleOffset ∧ t.sampleOffset = s.sampleOffset) ∧
    (∀ rest, s.hostQueue = .drainSamples :: rest →
      ∃ t, step s = .next t ∧ t.readCursor = s.frameBoundary ∧ t.readableCount = 0)
end

