-- ==== Sys2Proof/Laws/Dsp.lean ====
section
/-! SUPPORT. The small lemmas of the coprocessor's and the DSP's parts: replacing a channel, a register, a bit, a port
or a timer, and what an envelope level, a pitch step and a repeated function are. -/

namespace Sys2Proof.Machine

@[simp] theorem Dsp.channel_setChannel (d : Dsp) (v w : Fin 8) (ch : Channel) :
    (d.setChannel v ch).channel w = if w = v then ch else d.channel w := by
  simp only [Dsp.setChannel, Dsp.channel, Fin.getElem_fin, Vector.getElem_set]
  by_cases h : w = v
  · simp [h]
  · have ne : ¬ v.val = w.val := fun e => h (Fin.ext e.symm)
    simp [h, ne]

@[simp] theorem Dsp.reg_setReg (d : Dsp) (a b : BitVec 7) (val : Byte) :
    (d.setReg a val).reg b = if b = a then val else d.reg b := by
  simp only [Dsp.setReg, Dsp.reg, Vector.getElem_set]
  by_cases h : b = a
  · simp [h]
  · have ne : ¬ a.toNat = b.toNat := fun e => h (BitVec.eq_of_toNat_eq e.symm)
    simp [h, ne]

@[simp] theorem Dsp.reg_setChannel (d : Dsp) (v : Fin 8) (ch : Channel) (a : BitVec 7) :
    (d.setChannel v ch).reg a = d.reg a := rfl

@[simp] theorem Dsp.endx_setChannel (d : Dsp) (v : Fin 8) (ch : Channel) : (d.setChannel v ch).endx = d.endx := rfl

@[simp] theorem Dsp.sampleNumber_setChannel (d : Dsp) (v : Fin 8) (ch : Channel) :
    (d.setChannel v ch).sampleNumber = d.sampleNumber := rfl

@[simp] theorem Dsp.channel_setReg (d : Dsp) (a : BitVec 7) (val : Byte) (v : Fin 8) :
    (d.setReg a val).channel v = d.channel v := rfl

@[simp] theorem Dsp.endx_setReg (d : Dsp) (a : BitVec 7) (val : Byte) : (d.setReg a val).endx = d.endx := rfl

@[simp] theorem Dsp.sampleNumber_setReg (d : Dsp) (a : BitVec 7) (val : Byte) :
    (d.setReg a val).sampleNumber = d.sampleNumber := rfl

theorem putBit_getLsbD (x : Byte) (k : Nat) (j : Fin 8) (b : Bool) :
    (putBit x k b).getLsbD j.val = if j.val = k then b else x.getLsbD j.val := by
  have hj := j.isLt
  cases b <;> by_cases h : j.val = k <;> simp [putBit, h, BitVec.getLsbD_shiftLeft] <;> omega

/-- The state after one more turn of a repeated function. -/
theorem applyTimes_succ {α : Type} (f : α → α) (n : Nat) (a : α) :
    applyTimes f (n + 1) a = f (applyTimes f n a) := by
  induction n generalizing a with
  | zero => rfl
  | succ n ih => exact ih (f a)

/-- What every turn of a repeated function keeps, all of them keep. -/
theorem applyTimes_keeps {α : Type} (f : α → α) (P : α → Prop) (hf : ∀ a, P a → P (f a)) (n : Nat) (a : α)
    (h : P a) : P (applyTimes f n a) := by
  induction n generalizing a with
  | zero => exact h
  | succ n ih => exact ih (f a) (hf a h)

/-- What the work on every channel keeps, the work on the channels of a mask keeps. -/
theorem forSetBits_keeps (f : Dsp → Fin 8 → Dsp) (P : Dsp → Prop) (hf : ∀ d v, P d → P (f d v)) (val : Byte) (d : Dsp)
    (h : P d) : P (forSetBits f val d) := by
  unfold forSetBits
  generalize List.finRange 8 = l
  induction l generalizing d with
  | nil => exact h
  | cons v l ih =>
    refine ih _ ?_
    dsimp only
    split
    · exact hf d v h
    · exact h

/-- The envelope level of an integer is the integer clamped to 0..$7FF (R413). -/
theorem envLevel_toNat (x : Int) : (envLevel x).toNat = (max 0 (min x 0x7FF)).toNat := by
  simp only [envLevel, clampInt, BitVec.toNat_ofInt]
  have h : 0 ≤ max 0 (min x 0x7FF) := by omega
  have h' : max 0 (min x 0x7FF) ≤ 0x7FF := by omega
  omega

theorem envelopePeriodBelow_pos (k : Nat) : 0 < Config.envelopePeriodBelow k := by
  induction k with
  | zero => exact Nat.one_pos
  | succ k ih => exact Nat.add_pos_left ih _

/-- One source step touches its own channel and ENDX only (R411, R412). -/
theorem Dsp.sourceStep_frame (aram : Memory) (v : Fin 8) (d : Dsp) :
    d.sourceStep aram v =
      { d with channels := (d.sourceStep aram v).channels, endx := (d.sourceStep aram v).endx } := by
  simp only [Dsp.sourceStep, Dsp.endOfBlock]
  split
  · split
    · split <;> rfl
    · rfl
  · rfl

@[simp] theorem Apu.timer_setTimer (a : Apu) (t u : Fin 3) (timer : Timer) :
    (a.setTimer t timer).timer u = if u = t then timer else a.timer u := by
  simp only [Apu.setTimer, Apu.timer, Fin.getElem_fin, Vector.getElem_set]
  by_cases h : u = t
  · simp [h]
  · have ne : ¬ t.val = u.val := fun e => h (Fin.ext e.symm)
    simp [h, ne]

@[simp] theorem Apu.inPorts_setInPort (a : Apu) (i j : Fin 4) (v : Byte) :
    (a.setInPort i v).inPorts[j] = if j = i then v else a.inPorts[j] := by
  simp only [Apu.setInPort, Fin.getElem_fin, Vector.getElem_set]
  by_cases h : j = i
  · simp [h]
  · have ne : ¬ i.val = j.val := fun e => h (Fin.ext e.symm)
    simp [h, ne]

@[simp] theorem Apu.outPorts_setOutPort (a : Apu) (i j : Fin 4) (v : Byte) :
    (a.setOutPort i v).outPorts[j] = if j = i then v else a.outPorts[j] := by
  simp only [Apu.setOutPort, Fin.getElem_fin, Vector.getElem_set]
  by_cases h : j = i
  · simp [h]
  · have ne : ¬ i.val = j.val := fun e => h (Fin.ext e.symm)
    simp [h, ne]

end Sys2Proof.Machine
end

