-- ==== Sys2Proof/Laws/State.lean ====
section
/-! SUPPORT. What each update of the state does to each field, so that no proof unfolds a record update. -/

namespace Sys2Proof.Machine

@[simp] theorem State.setFlag_c (s : State) (f : Flag) (b : Bool) : (s.setFlag f b).c = s.c := rfl
@[simp] theorem State.setFlag_x (s : State) (f : Flag) (b : Bool) : (s.setFlag f b).x = s.x := rfl
@[simp] theorem State.setFlag_y (s : State) (f : Flag) (b : Bool) : (s.setFlag f b).y = s.y := rfl
@[simp] theorem State.setFlag_sp (s : State) (f : Flag) (b : Bool) : (s.setFlag f b).sp = s.sp := rfl
@[simp] theorem State.setFlag_d (s : State) (f : Flag) (b : Bool) : (s.setFlag f b).d = s.d := rfl
@[simp] theorem State.setFlag_db (s : State) (f : Flag) (b : Bool) : (s.setFlag f b).db = s.db := rfl
@[simp] theorem State.setFlag_pb (s : State) (f : Flag) (b : Bool) : (s.setFlag f b).pb = s.pb := rfl
@[simp] theorem State.setFlag_pc (s : State) (f : Flag) (b : Bool) : (s.setFlag f b).pc = s.pc := rfl
@[simp] theorem State.setFlag_p (s : State) (f : Flag) (b : Bool) : (s.setFlag f b).p = putFlag s.p f b := rfl
@[simp] theorem State.setFlag_e (s : State) (f : Flag) (b : Bool) : (s.setFlag f b).e = s.e := rfl
@[simp] theorem State.setFlag_run (s : State) (f : Flag) (b : Bool) : (s.setFlag f b).run = s.run := rfl
@[simp] theorem State.setFlag_nmiPending (s : State) (f : Flag) (b : Bool) : (s.setFlag f b).nmiPending = s.nmiPending := rfl
@[simp] theorem State.setFlag_irqLine (s : State) (f : Flag) (b : Bool) : (s.setFlag f b).irqLine = s.irqLine := rfl
@[simp] theorem State.setFlag_mem (s : State) (f : Flag) (b : Bool) : (s.setFlag f b).mem = s.mem := rfl
@[simp] theorem State.setFlag_reports (s : State) (f : Flag) (b : Bool) : (s.setFlag f b).reports = s.reports := rfl
@[simp] theorem State.setFlag_apu (s : State) (f : Flag) (b : Bool) : (s.setFlag f b).apu = s.apu := rfl
@[simp] theorem State.setFlag_readCursor (s : State) (f : Flag) (b : Bool) : (s.setFlag f b).readCursor = s.readCursor := rfl
@[simp] theorem State.setFlag_hostQueue (s : State) (f : Flag) (b : Bool) : (s.setFlag f b).hostQueue = s.hostQueue := rfl
@[simp] theorem State.setFlag_config (s : State) (f : Flag) (b : Bool) : (s.setFlag f b).config = s.config := rfl
@[simp] theorem State.setFlag_freeCounter (s : State) (f : Flag) (b : Bool) : (s.setFlag f b).freeCounter = s.freeCounter := rfl

@[simp] theorem State.setNZ_c (s : State) (v : Word) (w : Width) : (s.setNZ v w).c = s.c := rfl
@[simp] theorem State.setNZ_x (s : State) (v : Word) (w : Width) : (s.setNZ v w).x = s.x := rfl
@[simp] theorem State.setNZ_y (s : State) (v : Word) (w : Width) : (s.setNZ v w).y = s.y := rfl
@[simp] theorem State.setNZ_sp (s : State) (v : Word) (w : Width) : (s.setNZ v w).sp = s.sp := rfl
@[simp] theorem State.setNZ_d (s : State) (v : Word) (w : Width) : (s.setNZ v w).d = s.d := rfl
@[simp] theorem State.setNZ_db (s : State) (v : Word) (w : Width) : (s.setNZ v w).db = s.db := rfl
@[simp] theorem State.setNZ_pb (s : State) (v : Word) (w : Width) : (s.setNZ v w).pb = s.pb := rfl
@[simp] theorem State.setNZ_pc (s : State) (v : Word) (w : Width) : (s.setNZ v w).pc = s.pc := rfl
@[simp] theorem State.setNZ_p (s : State) (v : Word) (w : Width) : (s.setNZ v w).p = statusNZ s.p v w := rfl
@[simp] theorem State.setNZ_e (s : State) (v : Word) (w : Width) : (s.setNZ v w).e = s.e := rfl
@[simp] theorem State.setNZ_run (s : State) (v : Word) (w : Width) : (s.setNZ v w).run = s.run := rfl
@[simp] theorem State.setNZ_nmiPending (s : State) (v : Word) (w : Width) : (s.setNZ v w).nmiPending = s.nmiPending := rfl
@[simp] theorem State.setNZ_irqLine (s : State) (v : Word) (w : Width) : (s.setNZ v w).irqLine = s.irqLine := rfl
@[simp] theorem State.setNZ_mem (s : State) (v : Word) (w : Width) : (s.setNZ v w).mem = s.mem := rfl
@[simp] theorem State.setNZ_reports (s : State) (v : Word) (w : Width) : (s.setNZ v w).reports = s.reports := rfl
@[simp] theorem State.setNZ_apu (s : State) (v : Word) (w : Width) : (s.setNZ v w).apu = s.apu := rfl
@[simp] theorem State.setNZ_readCursor (s : State) (v : Word) (w : Width) : (s.setNZ v w).readCursor = s.readCursor := rfl
@[simp] theorem State.setNZ_hostQueue (s : State) (v : Word) (w : Width) : (s.setNZ v w).hostQueue = s.hostQueue := rfl
@[simp] theorem State.setNZ_config (s : State) (v : Word) (w : Width) : (s.setNZ v w).config = s.config := rfl
@[simp] theorem State.setNZ_freeCounter (s : State) (v : Word) (w : Width) : (s.setNZ v w).freeCounter = s.freeCounter := rfl

@[simp] theorem State.compare_c (s : State) (r m : Word) (w : Width) : (s.compare r m w).c = s.c := rfl
@[simp] theorem State.compare_x (s : State) (r m : Word) (w : Width) : (s.compare r m w).x = s.x := rfl
@[simp] theorem State.compare_y (s : State) (r m : Word) (w : Width) : (s.compare r m w).y = s.y := rfl
@[simp] theorem State.compare_sp (s : State) (r m : Word) (w : Width) : (s.compare r m w).sp = s.sp := rfl
@[simp] theorem State.compare_d (s : State) (r m : Word) (w : Width) : (s.compare r m w).d = s.d := rfl
@[simp] theorem State.compare_db (s : State) (r m : Word) (w : Width) : (s.compare r m w).db = s.db := rfl
@[simp] theorem State.compare_pb (s : State) (r m : Word) (w : Width) : (s.compare r m w).pb = s.pb := rfl
@[simp] theorem State.compare_pc (s : State) (r m : Word) (w : Width) : (s.compare r m w).pc = s.pc := rfl
@[simp] theorem State.compare_p (s : State) (r m : Word) (w : Width) : (s.compare r m w).p = statusCompare s.p w r m := rfl
@[simp] theorem State.compare_e (s : State) (r m : Word) (w : Width) : (s.compare r m w).e = s.e := rfl
@[simp] theorem State.compare_run (s : State) (r m : Word) (w : Width) : (s.compare r m w).run = s.run := rfl
@[simp] theorem State.compare_nmiPending (s : State) (r m : Word) (w : Width) : (s.compare r m w).nmiPending = s.nmiPending := rfl
@[simp] theorem State.compare_irqLine (s : State) (r m : Word) (w : Width) : (s.compare r m w).irqLine = s.irqLine := rfl
@[simp] theorem State.compare_mem (s : State) (r m : Word) (w : Width) : (s.compare r m w).mem = s.mem := rfl
@[simp] theorem State.compare_reports (s : State) (r m : Word) (w : Width) : (s.compare r m w).reports = s.reports := rfl
@[simp] theorem State.compare_apu (s : State) (r m : Word) (w : Width) : (s.compare r m w).apu = s.apu := rfl
@[simp] theorem State.compare_readCursor (s : State) (r m : Word) (w : Width) : (s.compare r m w).readCursor = s.readCursor := rfl
@[simp] theorem State.compare_hostQueue (s : State) (r m : Word) (w : Width) : (s.compare r m w).hostQueue = s.hostQueue := rfl
@[simp] theorem State.compare_config (s : State) (r m : Word) (w : Width) : (s.compare r m w).config = s.config := rfl
@[simp] theorem State.compare_freeCounter (s : State) (r m : Word) (w : Width) : (s.compare r m w).freeCounter = s.freeCounter := rfl

@[simp] theorem State.setAcc_c (s : State) (w : Width) (v : Word) : (s.setAcc w v).c = withAcc s.c w v := rfl
@[simp] theorem State.setAcc_x (s : State) (w : Width) (v : Word) : (s.setAcc w v).x = s.x := rfl
@[simp] theorem State.setAcc_y (s : State) (w : Width) (v : Word) : (s.setAcc w v).y = s.y := rfl
@[simp] theorem State.setAcc_sp (s : State) (w : Width) (v : Word) : (s.setAcc w v).sp = s.sp := rfl
@[simp] theorem State.setAcc_d (s : State) (w : Width) (v : Word) : (s.setAcc w v).d = s.d := rfl
@[simp] theorem State.setAcc_db (s : State) (w : Width) (v : Word) : (s.setAcc w v).db = s.db := rfl
@[simp] theorem State.setAcc_pb (s : State) (w : Width) (v : Word) : (s.setAcc w v).pb = s.pb := rfl
@[simp] theorem State.setAcc_pc (s : State) (w : Width) (v : Word) : (s.setAcc w v).pc = s.pc := rfl
@[simp] theorem State.setAcc_p (s : State) (w : Width) (v : Word) : (s.setAcc w v).p = s.p := rfl
@[simp] theorem State.setAcc_e (s : State) (w : Width) (v : Word) : (s.setAcc w v).e = s.e := rfl
@[simp] theorem State.setAcc_run (s : State) (w : Width) (v : Word) : (s.setAcc w v).run = s.run := rfl
@[simp] theorem State.setAcc_nmiPending (s : State) (w : Width) (v : Word) : (s.setAcc w v).nmiPending = s.nmiPending := rfl
@[simp] theorem State.setAcc_irqLine (s : State) (w : Width) (v : Word) : (s.setAcc w v).irqLine = s.irqLine := rfl
@[simp] theorem State.setAcc_mem (s : State) (w : Width) (v : Word) : (s.setAcc w v).mem = s.mem := rfl
@[simp] theorem State.setAcc_reports (s : State) (w : Width) (v : Word) : (s.setAcc w v).reports = s.reports := rfl
@[simp] theorem State.setAcc_apu (s : State) (w : Width) (v : Word) : (s.setAcc w v).apu = s.apu := rfl
@[simp] theorem State.setAcc_readCursor (s : State) (w : Width) (v : Word) : (s.setAcc w v).readCursor = s.readCursor := rfl
@[simp] theorem State.setAcc_hostQueue (s : State) (w : Width) (v : Word) : (s.setAcc w v).hostQueue = s.hostQueue := rfl
@[simp] theorem State.setAcc_config (s : State) (w : Width) (v : Word) : (s.setAcc w v).config = s.config := rfl
@[simp] theorem State.setAcc_freeCounter (s : State) (w : Width) (v : Word) : (s.setAcc w v).freeCounter = s.freeCounter := rfl

@[simp] theorem State.setX_c (s : State) (w : Width) (v : Word) : (s.setX w v).c = s.c := rfl
@[simp] theorem State.setX_x (s : State) (w : Width) (v : Word) : (s.setX w v).x = trunc w v := rfl
@[simp] theorem State.setX_y (s : State) (w : Width) (v : Word) : (s.setX w v).y = s.y := rfl
@[simp] theorem State.setX_sp (s : State) (w : Width) (v : Word) : (s.setX w v).sp = s.sp := rfl
@[simp] theorem State.setX_d (s : State) (w : Width) (v : Word) : (s.setX w v).d = s.d := rfl
@[simp] theorem State.setX_db (s : State) (w : Width) (v : Word) : (s.setX w v).db = s.db := rfl
@[simp] theorem State.setX_pb (s : State) (w : Width) (v : Word) : (s.setX w v).pb = s.pb := rfl
@[simp] theorem State.setX_pc (s : State) (w : Width) (v : Word) : (s.setX w v).pc = s.pc := rfl
@[simp] theorem State.setX_p (s : State) (w : Width) (v : Word) : (s.setX w v).p = s.p := rfl
@[simp] theorem State.setX_e (s : State) (w : Width) (v : Word) : (s.setX w v).e = s.e := rfl
@[simp] theorem State.setX_run (s : State) (w : Width) (v : Word) : (s.setX w v).run = s.run := rfl
@[simp] theorem State.setX_nmiPending (s : State) (w : Width) (v : Word) : (s.setX w v).nmiPending = s.nmiPending := rfl
@[simp] theorem State.setX_irqLine (s : State) (w : Width) (v : Word) : (s.setX w v).irqLine = s.irqLine := rfl
@[simp] theorem State.setX_mem (s : State) (w : Width) (v : Word) : (s.setX w v).mem = s.mem := rfl
@[simp] theorem State.setX_reports (s : State) (w : Width) (v : Word) : (s.setX w v).reports = s.reports := rfl
@[simp] theorem State.setX_apu (s : State) (w : Width) (v : Word) : (s.setX w v).apu = s.apu := rfl
@[simp] theorem State.setX_readCursor (s : State) (w : Width) (v : Word) : (s.setX w v).readCursor = s.readCursor := rfl
@[simp] theorem State.setX_hostQueue (s : State) (w : Width) (v : Word) : (s.setX w v).hostQueue = s.hostQueue := rfl
@[simp] theorem State.setX_config (s : State) (w : Width) (v : Word) : (s.setX w v).config = s.config := rfl
@[simp] theorem State.setX_freeCounter (s : State) (w : Width) (v : Word) : (s.setX w v).freeCounter = s.freeCounter := rfl

@[simp] theorem State.setY_c (s : State) (w : Width) (v : Word) : (s.setY w v).c = s.c := rfl
@[simp] theorem State.setY_x (s : State) (w : Width) (v : Word) : (s.setY w v).x = s.x := rfl
@[simp] theorem State.setY_y (s : State) (w : Width) (v : Word) : (s.setY w v).y = trunc w v := rfl
@[simp] theorem State.setY_sp (s : State) (w : Width) (v : Word) : (s.setY w v).sp = s.sp := rfl
@[simp] theorem State.setY_d (s : State) (w : Width) (v : Word) : (s.setY w v).d = s.d := rfl
@[simp] theorem State.setY_db (s : State) (w : Width) (v : Word) : (s.setY w v).db = s.db := rfl
@[simp] theorem State.setY_pb (s : State) (w : Width) (v : Word) : (s.setY w v).pb = s.pb := rfl
@[simp] theorem State.setY_pc (s : State) (w : Width) (v : Word) : (s.setY w v).pc = s.pc := rfl
@[simp] theorem State.setY_p (s : State) (w : Width) (v : Word) : (s.setY w v).p = s.p := rfl
@[simp] theorem State.setY_e (s : State) (w : Width) (v : Word) : (s.setY w v).e = s.e := rfl
@[simp] theorem State.setY_run (s : State) (w : Width) (v : Word) : (s.setY w v).run = s.run := rfl
@[simp] theorem State.setY_nmiPending (s : State) (w : Width) (v : Word) : (s.setY w v).nmiPending = s.nmiPending := rfl
@[simp] theorem State.setY_irqLine (s : State) (w : Width) (v : Word) : (s.setY w v).irqLine = s.irqLine := rfl
@[simp] theorem State.setY_mem (s : State) (w : Width) (v : Word) : (s.setY w v).mem = s.mem := rfl
@[simp] theorem State.setY_reports (s : State) (w : Width) (v : Word) : (s.setY w v).reports = s.reports := rfl
@[simp] theorem State.setY_apu (s : State) (w : Width) (v : Word) : (s.setY w v).apu = s.apu := rfl
@[simp] theorem State.setY_readCursor (s : State) (w : Width) (v : Word) : (s.setY w v).readCursor = s.readCursor := rfl
@[simp] theorem State.setY_hostQueue (s : State) (w : Width) (v : Word) : (s.setY w v).hostQueue = s.hostQueue := rfl
@[simp] theorem State.setY_config (s : State) (w : Width) (v : Word) : (s.setY w v).config = s.config := rfl
@[simp] theorem State.setY_freeCounter (s : State) (w : Width) (v : Word) : (s.setY w v).freeCounter = s.freeCounter := rfl

@[simp] theorem State.applySum_c (s : State) (w : Width) (r : SumResult) : (s.applySum w r).c = withAcc s.c w r.value := rfl
@[simp] theorem State.applySum_x (s : State) (w : Width) (r : SumResult) : (s.applySum w r).x = s.x := rfl
@[simp] theorem State.applySum_y (s : State) (w : Width) (r : SumResult) : (s.applySum w r).y = s.y := rfl
@[simp] theorem State.applySum_sp (s : State) (w : Width) (r : SumResult) : (s.applySum w r).sp = s.sp := rfl
@[simp] theorem State.applySum_d (s : State) (w : Width) (r : SumResult) : (s.applySum w r).d = s.d := rfl
@[simp] theorem State.applySum_db (s : State) (w : Width) (r : SumResult) : (s.applySum w r).db = s.db := rfl
@[simp] theorem State.applySum_pb (s : State) (w : Width) (r : SumResult) : (s.applySum w r).pb = s.pb := rfl
@[simp] theorem State.applySum_pc (s : State) (w : Width) (r : SumResult) : (s.applySum w r).pc = s.pc := rfl
@[simp] theorem State.applySum_p (s : State) (w : Width) (r : SumResult) : (s.applySum w r).p = statusSum s.p w r := rfl
@[simp] theorem State.applySum_e (s : State) (w : Width) (r : SumResult) : (s.applySum w r).e = s.e := rfl
@[simp] theorem State.applySum_run (s : State) (w : Width) (r : SumResult) : (s.applySum w r).run = s.run := rfl
@[simp] theorem State.applySum_nmiPending (s : State) (w : Width) (r : SumResult) : (s.applySum w r).nmiPending = s.nmiPending := rfl
@[simp] theorem State.applySum_irqLine (s : State) (w : Width) (r : SumResult) : (s.applySum w r).irqLine = s.irqLine := rfl
@[simp] theorem State.applySum_mem (s : State) (w : Width) (r : SumResult) : (s.applySum w r).mem = s.mem := rfl
@[simp] theorem State.applySum_reports (s : State) (w : Width) (r : SumResult) : (s.applySum w r).reports = s.reports := rfl
@[simp] theorem State.applySum_apu (s : State) (w : Width) (r : SumResult) : (s.applySum w r).apu = s.apu := rfl
@[simp] theorem State.applySum_readCursor (s : State) (w : Width) (r : SumResult) : (s.applySum w r).readCursor = s.readCursor := rfl
@[simp] theorem State.applySum_hostQueue (s : State) (w : Width) (r : SumResult) : (s.applySum w r).hostQueue = s.hostQueue := rfl
@[simp] theorem State.applySum_config (s : State) (w : Width) (r : SumResult) : (s.applySum w r).config = s.config := rfl
@[simp] theorem State.applySum_freeCounter (s : State) (w : Width) (r : SumResult) : (s.applySum w r).freeCounter = s.freeCounter := rfl

@[simp] theorem State.writeData_c (s : State) (ea : Addr) (w : Width) (v : Word) : (s.writeData ea w v).c = s.c := rfl
@[simp] theorem State.writeData_x (s : State) (ea : Addr) (w : Width) (v : Word) : (s.writeData ea w v).x = s.x := rfl
@[simp] theorem State.writeData_y (s : State) (ea : Addr) (w : Width) (v : Word) : (s.writeData ea w v).y = s.y := rfl
@[simp] theorem State.writeData_sp (s : State) (ea : Addr) (w : Width) (v : Word) : (s.writeData ea w v).sp = s.sp := rfl
@[simp] theorem State.writeData_d (s : State) (ea : Addr) (w : Width) (v : Word) : (s.writeData ea w v).d = s.d := rfl
@[simp] theorem State.writeData_db (s : State) (ea : Addr) (w : Width) (v : Word) : (s.writeData ea w v).db = s.db := rfl
@[simp] theorem State.writeData_pb (s : State) (ea : Addr) (w : Width) (v : Word) : (s.writeData ea w v).pb = s.pb := rfl
@[simp] theorem State.writeData_pc (s : State) (ea : Addr) (w : Width) (v : Word) : (s.writeData ea w v).pc = s.pc := rfl
@[simp] theorem State.writeData_p (s : State) (ea : Addr) (w : Width) (v : Word) : (s.writeData ea w v).p = s.p := rfl
@[simp] theorem State.writeData_e (s : State) (ea : Addr) (w : Width) (v : Word) : (s.writeData ea w v).e = s.e := rfl
@[simp] theorem State.writeData_run (s : State) (ea : Addr) (w : Width) (v : Word) : (s.writeData ea w v).run = s.run := rfl
@[simp] theorem State.writeData_nmiPending (s : State) (ea : Addr) (w : Width) (v : Word) : (s.writeData ea w v).nmiPending = s.nmiPending := rfl
@[simp] theorem State.writeData_irqLine (s : State) (ea : Addr) (w : Width) (v : Word) : (s.writeData ea w v).irqLine = s.irqLine := rfl
@[simp] theorem State.writeData_mem (s : State) (ea : Addr) (w : Width) (v : Word) : (s.writeData ea w v).mem = memPutData s.mem ea w v := rfl
@[simp] theorem State.writeData_reports (s : State) (ea : Addr) (w : Width) (v : Word) : (s.writeData ea w v).reports = s.reports := rfl
@[simp] theorem State.writeData_apu (s : State) (ea : Addr) (w : Width) (v : Word) : (s.writeData ea w v).apu = s.apu := rfl
@[simp] theorem State.writeData_readCursor (s : State) (ea : Addr) (w : Width) (v : Word) : (s.writeData ea w v).readCursor = s.readCursor := rfl
@[simp] theorem State.writeData_hostQueue (s : State) (ea : Addr) (w : Width) (v : Word) : (s.writeData ea w v).hostQueue = s.hostQueue := rfl
@[simp] theorem State.writeData_config (s : State) (ea : Addr) (w : Width) (v : Word) : (s.writeData ea w v).config = s.config := rfl
@[simp] theorem State.writeData_freeCounter (s : State) (ea : Addr) (w : Width) (v : Word) : (s.writeData ea w v).freeCounter = s.freeCounter := rfl

@[simp] theorem State.advance_c (s : State) (n : Nat) : (s.advance n).c = s.c := rfl
@[simp] theorem State.advance_x (s : State) (n : Nat) : (s.advance n).x = s.x := rfl
@[simp] theorem State.advance_y (s : State) (n : Nat) : (s.advance n).y = s.y := rfl
@[simp] theorem State.advance_sp (s : State) (n : Nat) : (s.advance n).sp = s.sp := rfl
@[simp] theorem State.advance_d (s : State) (n : Nat) : (s.advance n).d = s.d := rfl
@[simp] theorem State.advance_db (s : State) (n : Nat) : (s.advance n).db = s.db := rfl
@[simp] theorem State.advance_pb (s : State) (n : Nat) : (s.advance n).pb = s.pb := rfl
@[simp] theorem State.advance_pc (s : State) (n : Nat) : (s.advance n).pc = s.pc + BitVec.ofNat 16 n := rfl
@[simp] theorem State.advance_p (s : State) (n : Nat) : (s.advance n).p = s.p := rfl
@[simp] theorem State.advance_e (s : State) (n : Nat) : (s.advance n).e = s.e := rfl
@[simp] theorem State.advance_run (s : State) (n : Nat) : (s.advance n).run = s.run := rfl
@[simp] theorem State.advance_nmiPending (s : State) (n : Nat) : (s.advance n).nmiPending = s.nmiPending := rfl
@[simp] theorem State.advance_irqLine (s : State) (n : Nat) : (s.advance n).irqLine = s.irqLine := rfl
@[simp] theorem State.advance_mem (s : State) (n : Nat) : (s.advance n).mem = s.mem := rfl
@[simp] theorem State.advance_reports (s : State) (n : Nat) : (s.advance n).reports = s.reports := rfl
@[simp] theorem State.advance_apu (s : State) (n : Nat) : (s.advance n).apu = s.apu := rfl
@[simp] theorem State.advance_readCursor (s : State) (n : Nat) : (s.advance n).readCursor = s.readCursor := rfl
@[simp] theorem State.advance_hostQueue (s : State) (n : Nat) : (s.advance n).hostQueue = s.hostQueue := rfl
@[simp] theorem State.advance_config (s : State) (n : Nat) : (s.advance n).config = s.config := rfl
@[simp] theorem State.advance_freeCounter (s : State) (n : Nat) : (s.advance n).freeCounter = s.freeCounter := rfl

@[simp] theorem State.reportUnknown_c (s : State) (op : Byte) (opPc : Word) : (s.reportUnknown op opPc).c = s.c := rfl
@[simp] theorem State.reportUnknown_x (s : State) (op : Byte) (opPc : Word) : (s.reportUnknown op opPc).x = s.x := rfl
@[simp] theorem State.reportUnknown_y (s : State) (op : Byte) (opPc : Word) : (s.reportUnknown op opPc).y = s.y := rfl
@[simp] theorem State.reportUnknown_sp (s : State) (op : Byte) (opPc : Word) : (s.reportUnknown op opPc).sp = s.sp := rfl
@[simp] theorem State.reportUnknown_d (s : State) (op : Byte) (opPc : Word) : (s.reportUnknown op opPc).d = s.d := rfl
@[simp] theorem State.reportUnknown_db (s : State) (op : Byte) (opPc : Word) : (s.reportUnknown op opPc).db = s.db := rfl
@[simp] theorem State.reportUnknown_pb (s : State) (op : Byte) (opPc : Word) : (s.reportUnknown op opPc).pb = s.pb := rfl
@[simp] theorem State.reportUnknown_pc (s : State) (op : Byte) (opPc : Word) : (s.reportUnknown op opPc).pc = s.pc := rfl
@[simp] theorem State.reportUnknown_p (s : State) (op : Byte) (opPc : Word) : (s.reportUnknown op opPc).p = s.p := rfl
@[simp] theorem State.reportUnknown_e (s : State) (op : Byte) (opPc : Word) : (s.reportUnknown op opPc).e = s.e := rfl
@[simp] theorem State.reportUnknown_run (s : State) (op : Byte) (opPc : Word) : (s.reportUnknown op opPc).run = s.run := rfl
@[simp] theorem State.reportUnknown_nmiPending (s : State) (op : Byte) (opPc : Word) : (s.reportUnknown op opPc).nmiPending = s.nmiPending := rfl
@[simp] theorem State.reportUnknown_irqLine (s : State) (op : Byte) (opPc : Word) : (s.reportUnknown op opPc).irqLine = s.irqLine := rfl
@[simp] theorem State.reportUnknown_mem (s : State) (op : Byte) (opPc : Word) : (s.reportUnknown op opPc).mem = s.mem := rfl
@[simp] theorem State.reportUnknown_reports (s : State) (op : Byte) (opPc : Word) : (s.reportUnknown op opPc).reports = s.reports ++ [⟨op, s.pb, opPc⟩] := rfl
@[simp] theorem State.reportUnknown_apu (s : State) (op : Byte) (opPc : Word) : (s.reportUnknown op opPc).apu = s.apu := rfl
@[simp] theorem State.reportUnknown_readCursor (s : State) (op : Byte) (opPc : Word) : (s.reportUnknown op opPc).readCursor = s.readCursor := rfl
@[simp] theorem State.reportUnknown_hostQueue (s : State) (op : Byte) (opPc : Word) : (s.reportUnknown op opPc).hostQueue = s.hostQueue := rfl
@[simp] theorem State.reportUnknown_config (s : State) (op : Byte) (opPc : Word) : (s.reportUnknown op opPc).config = s.config := rfl
@[simp] theorem State.reportUnknown_freeCounter (s : State) (op : Byte) (opPc : Word) : (s.reportUnknown op opPc).freeCounter = s.freeCounter := rfl

@[simp] theorem State.push8_c (s : State) (v : Byte) : (s.push8 v).c = s.c := rfl
@[simp] theorem State.push8_x (s : State) (v : Byte) : (s.push8 v).x = s.x := rfl
@[simp] theorem State.push8_y (s : State) (v : Byte) : (s.push8 v).y = s.y := rfl
@[simp] theorem State.push8_sp (s : State) (v : Byte) : (s.push8 v).sp = stackMove s.e s.sp (-1) := rfl
@[simp] theorem State.push8_d (s : State) (v : Byte) : (s.push8 v).d = s.d := rfl
@[simp] theorem State.push8_db (s : State) (v : Byte) : (s.push8 v).db = s.db := rfl
@[simp] theorem State.push8_pb (s : State) (v : Byte) : (s.push8 v).pb = s.pb := rfl
@[simp] theorem State.push8_pc (s : State) (v : Byte) : (s.push8 v).pc = s.pc := rfl
@[simp] theorem State.push8_p (s : State) (v : Byte) : (s.push8 v).p = s.p := rfl
@[simp] theorem State.push8_e (s : State) (v : Byte) : (s.push8 v).e = s.e := rfl
@[simp] theorem State.push8_run (s : State) (v : Byte) : (s.push8 v).run = s.run := rfl
@[simp] theorem State.push8_nmiPending (s : State) (v : Byte) : (s.push8 v).nmiPending = s.nmiPending := rfl
@[simp] theorem State.push8_irqLine (s : State) (v : Byte) : (s.push8 v).irqLine = s.irqLine := rfl
@[simp] theorem State.push8_mem (s : State) (v : Byte) : (s.push8 v).mem = memPutByte s.mem (bank0 s.sp) v := rfl
@[simp] theorem State.push8_reports (s : State) (v : Byte) : (s.push8 v).reports = s.reports := rfl
@[simp] theorem State.push8_apu (s : State) (v : Byte) : (s.push8 v).apu = s.apu := rfl
@[simp] theorem State.push8_readCursor (s : State) (v : Byte) : (s.push8 v).readCursor = s.readCursor := rfl
@[simp] theorem State.push8_hostQueue (s : State) (v : Byte) : (s.push8 v).hostQueue = s.hostQueue := rfl
@[simp] theorem State.push8_config (s : State) (v : Byte) : (s.push8 v).config = s.config := rfl
@[simp] theorem State.push8_freeCounter (s : State) (v : Byte) : (s.push8 v).freeCounter = s.freeCounter := rfl

@[simp] theorem State.push16_c (s : State) (v : Word) : (s.push16 v).c = s.c := rfl
@[simp] theorem State.push16_x (s : State) (v : Word) : (s.push16 v).x = s.x := rfl
@[simp] theorem State.push16_y (s : State) (v : Word) : (s.push16 v).y = s.y := rfl
@[simp] theorem State.push16_sp (s : State) (v : Word) : (s.push16 v).sp = stackMove s.e (stackMove s.e s.sp (-1)) (-1) := rfl
@[simp] theorem State.push16_d (s : State) (v : Word) : (s.push16 v).d = s.d := rfl
@[simp] theorem State.push16_db (s : State) (v : Word) : (s.push16 v).db = s.db := rfl
@[simp] theorem State.push16_pb (s : State) (v : Word) : (s.push16 v).pb = s.pb := rfl
@[simp] theorem State.push16_pc (s : State) (v : Word) : (s.push16 v).pc = s.pc := rfl
@[simp] theorem State.push16_p (s : State) (v : Word) : (s.push16 v).p = s.p := rfl
@[simp] theorem State.push16_e (s : State) (v : Word) : (s.push16 v).e = s.e := rfl
@[simp] theorem State.push16_run (s : State) (v : Word) : (s.push16 v).run = s.run := rfl
@[simp] theorem State.push16_nmiPending (s : State) (v : Word) : (s.push16 v).nmiPending = s.nmiPending := rfl
@[simp] theorem State.push16_irqLine (s : State) (v : Word) : (s.push16 v).irqLine = s.irqLine := rfl
@[simp] theorem State.push16_reports (s : State) (v : Word) : (s.push16 v).reports = s.reports := rfl
@[simp] theorem State.push16_apu (s : State) (v : Word) : (s.push16 v).apu = s.apu := rfl
@[simp] theorem State.push16_readCursor (s : State) (v : Word) : (s.push16 v).readCursor = s.readCursor := rfl
@[simp] theorem State.push16_hostQueue (s : State) (v : Word) : (s.push16 v).hostQueue = s.hostQueue := rfl
@[simp] theorem State.push16_config (s : State) (v : Word) : (s.push16 v).config = s.config := rfl
@[simp] theorem State.push16_freeCounter (s : State) (v : Word) : (s.push16 v).freeCounter = s.freeCounter := rfl

@[simp] theorem State.pulled_c (s : State) : (s.pulled).c = s.c := rfl
@[simp] theorem State.pulled_x (s : State) : (s.pulled).x = s.x := rfl
@[simp] theorem State.pulled_y (s : State) : (s.pulled).y = s.y := rfl
@[simp] theorem State.pulled_sp (s : State) : (s.pulled).sp = stackMove s.e s.sp 1 := rfl
@[simp] theorem State.pulled_d (s : State) : (s.pulled).d = s.d := rfl
@[simp] theorem State.pulled_db (s : State) : (s.pulled).db = s.db := rfl
@[simp] theorem State.pulled_pb (s : State) : (s.pulled).pb = s.pb := rfl
@[simp] theorem State.pulled_pc (s : State) : (s.pulled).pc = s.pc := rfl
@[simp] theorem State.pulled_p (s : State) : (s.pulled).p = s.p := rfl
@[simp] theorem State.pulled_e (s : State) : (s.pulled).e = s.e := rfl
@[simp] theorem State.pulled_run (s : State) : (s.pulled).run = s.run := rfl
@[simp] theorem State.pulled_nmiPending (s : State) : (s.pulled).nmiPending = s.nmiPending := rfl
@[simp] theorem State.pulled_irqLine (s : State) : (s.pulled).irqLine = s.irqLine := rfl
@[simp] theorem State.pulled_mem (s : State) : (s.pulled).mem = s.mem := rfl
@[simp] theorem State.pulled_reports (s : State) : (s.pulled).reports = s.reports := rfl
@[simp] theorem State.pulled_apu (s : State) : (s.pulled).apu = s.apu := rfl
@[simp] theorem State.pulled_readCursor (s : State) : (s.pulled).readCursor = s.readCursor := rfl
@[simp] theorem State.pulled_hostQueue (s : State) : (s.pulled).hostQueue = s.hostQueue := rfl
@[simp] theorem State.pulled_config (s : State) : (s.pulled).config = s.config := rfl
@[simp] theorem State.pulled_freeCounter (s : State) : (s.pulled).freeCounter = s.freeCounter := rfl

@[simp] theorem State.setP_c (s : State) (v : Byte) : (s.setP v).c = s.c := rfl
@[simp] theorem State.setP_sp (s : State) (v : Byte) : (s.setP v).sp = s.sp := rfl
@[simp] theorem State.setP_d (s : State) (v : Byte) : (s.setP v).d = s.d := rfl
@[simp] theorem State.setP_db (s : State) (v : Byte) : (s.setP v).db = s.db := rfl
@[simp] theorem State.setP_pb (s : State) (v : Byte) : (s.setP v).pb = s.pb := rfl
@[simp] theorem State.setP_pc (s : State) (v : Byte) : (s.setP v).pc = s.pc := rfl
@[simp] theorem State.setP_p (s : State) (v : Byte) : (s.setP v).p = if s.e then v ||| 0x30 else v := rfl
@[simp] theorem State.setP_e (s : State) (v : Byte) : (s.setP v).e = s.e := rfl
@[simp] theorem State.setP_run (s : State) (v : Byte) : (s.setP v).run = s.run := rfl
@[simp] theorem State.setP_nmiPending (s : State) (v : Byte) : (s.setP v).nmiPending = s.nmiPending := rfl
@[simp] theorem State.setP_irqLine (s : State) (v : Byte) : (s.setP v).irqLine = s.irqLine := rfl
@[simp] theorem State.setP_mem (s : State) (v : Byte) : (s.setP v).mem = s.mem := rfl
@[simp] theorem State.setP_reports (s : State) (v : Byte) : (s.setP v).reports = s.reports := rfl
@[simp] theorem State.setP_apu (s : State) (v : Byte) : (s.setP v).apu = s.apu := rfl
@[simp] theorem State.setP_readCursor (s : State) (v : Byte) : (s.setP v).readCursor = s.readCursor := rfl
@[simp] theorem State.setP_hostQueue (s : State) (v : Byte) : (s.setP v).hostQueue = s.hostQueue := rfl
@[simp] theorem State.setP_config (s : State) (v : Byte) : (s.setP v).config = s.config := rfl
@[simp] theorem State.setP_freeCounter (s : State) (v : Byte) : (s.setP v).freeCounter = s.freeCounter := rfl

@[simp] theorem State.jump_c (s : State) (target : Word) : (s.jump target).c = s.c := rfl
@[simp] theorem State.jump_x (s : State) (target : Word) : (s.jump target).x = s.x := rfl
@[simp] theorem State.jump_y (s : State) (target : Word) : (s.jump target).y = s.y := rfl
@[simp] theorem State.jump_sp (s : State) (target : Word) : (s.jump target).sp = s.sp := rfl
@[simp] theorem State.jump_d (s : State) (target : Word) : (s.jump target).d = s.d := rfl
@[simp] theorem State.jump_db (s : State) (target : Word) : (s.jump target).db = s.db := rfl
@[simp] theorem State.jump_pb (s : State) (target : Word) : (s.jump target).pb = s.pb := rfl
@[simp] theorem State.jump_pc (s : State) (target : Word) : (s.jump target).pc = target := rfl
@[simp] theorem State.jump_p (s : State) (target : Word) : (s.jump target).p = s.p := rfl
@[simp] theorem State.jump_e (s : State) (target : Word) : (s.jump target).e = s.e := rfl
@[simp] theorem State.jump_run (s : State) (target : Word) : (s.jump target).run = s.run := rfl
@[simp] theorem State.jump_nmiPending (s : State) (target : Word) : (s.jump target).nmiPending = s.nmiPending := rfl
@[simp] theorem State.jump_irqLine (s : State) (target : Word) : (s.jump target).irqLine = s.irqLine := rfl
@[simp] theorem State.jump_mem (s : State) (target : Word) : (s.jump target).mem = s.mem := rfl
@[simp] theorem State.jump_reports (s : State) (target : Word) : (s.jump target).reports = s.reports := rfl
@[simp] theorem State.jump_apu (s : State) (target : Word) : (s.jump target).apu = s.apu := rfl
@[simp] theorem State.jump_readCursor (s : State) (target : Word) : (s.jump target).readCursor = s.readCursor := rfl
@[simp] theorem State.jump_hostQueue (s : State) (target : Word) : (s.jump target).hostQueue = s.hostQueue := rfl
@[simp] theorem State.jump_config (s : State) (target : Word) : (s.jump target).config = s.config := rfl
@[simp] theorem State.jump_freeCounter (s : State) (target : Word) : (s.jump target).freeCounter = s.freeCounter := rfl

@[simp] theorem State.jumpLong_c (s : State) (target : Addr) : (s.jumpLong target).c = s.c := rfl
@[simp] theorem State.jumpLong_x (s : State) (target : Addr) : (s.jumpLong target).x = s.x := rfl
@[simp] theorem State.jumpLong_y (s : State) (target : Addr) : (s.jumpLong target).y = s.y := rfl
@[simp] theorem State.jumpLong_sp (s : State) (target : Addr) : (s.jumpLong target).sp = s.sp := rfl
@[simp] theorem State.jumpLong_d (s : State) (target : Addr) : (s.jumpLong target).d = s.d := rfl
@[simp] theorem State.jumpLong_db (s : State) (target : Addr) : (s.jumpLong target).db = s.db := rfl
@[simp] theorem State.jumpLong_pb (s : State) (target : Addr) : (s.jumpLong target).pb = bankOf target := rfl
@[simp] theorem State.jumpLong_pc (s : State) (target : Addr) : (s.jumpLong target).pc = offsetOf target := rfl
@[simp] theorem State.jumpLong_p (s : State) (target : Addr) : (s.jumpLong target).p = s.p := rfl
@[simp] theorem State.jumpLong_e (s : State) (target : Addr) : (s.jumpLong target).e = s.e := rfl
@[simp] theorem State.jumpLong_run (s : State) (target : Addr) : (s.jumpLong target).run = s.run := rfl
@[simp] theorem State.jumpLong_nmiPending (s : State) (target : Addr) : (s.jumpLong target).nmiPending = s.nmiPending := rfl
@[simp] theorem State.jumpLong_irqLine (s : State) (target : Addr) : (s.jumpLong target).irqLine = s.irqLine := rfl
@[simp] theorem State.jumpLong_mem (s : State) (target : Addr) : (s.jumpLong target).mem = s.mem := rfl
@[simp] theorem State.jumpLong_reports (s : State) (target : Addr) : (s.jumpLong target).reports = s.reports := rfl
@[simp] theorem State.jumpLong_apu (s : State) (target : Addr) : (s.jumpLong target).apu = s.apu := rfl
@[simp] theorem State.jumpLong_readCursor (s : State) (target : Addr) : (s.jumpLong target).readCursor = s.readCursor := rfl
@[simp] theorem State.jumpLong_hostQueue (s : State) (target : Addr) : (s.jumpLong target).hostQueue = s.hostQueue := rfl
@[simp] theorem State.jumpLong_config (s : State) (target : Addr) : (s.jumpLong target).config = s.config := rfl
@[simp] theorem State.jumpLong_freeCounter (s : State) (target : Addr) : (s.jumpLong target).freeCounter = s.freeCounter := rfl

@[simp] theorem State.branch_c (s : State) (cond : BranchCond) (rel : Byte) : (s.branch cond rel).c = s.c := rfl
@[simp] theorem State.branch_x (s : State) (cond : BranchCond) (rel : Byte) : (s.branch cond rel).x = s.x := rfl
@[simp] theorem State.branch_y (s : State) (cond : BranchCond) (rel : Byte) : (s.branch cond rel).y = s.y := rfl
@[simp] theorem State.branch_sp (s : State) (cond : BranchCond) (rel : Byte) : (s.branch cond rel).sp = s.sp := rfl
@[simp] theorem State.branch_d (s : State) (cond : BranchCond) (rel : Byte) : (s.branch cond rel).d = s.d := rfl
@[simp] theorem State.branch_db (s : State) (cond : BranchCond) (rel : Byte) : (s.branch cond rel).db = s.db := rfl
@[simp] theorem State.branch_pb (s : State) (cond : BranchCond) (rel : Byte) : (s.branch cond rel).pb = s.pb := rfl
@[simp] theorem State.branch_p (s : State) (cond : BranchCond) (rel : Byte) : (s.branch cond rel).p = s.p := rfl
@[simp] theorem State.branch_e (s : State) (cond : BranchCond) (rel : Byte) : (s.branch cond rel).e = s.e := rfl
@[simp] theorem State.branch_run (s : State) (cond : BranchCond) (rel : Byte) : (s.branch cond rel).run = s.run := rfl
@[simp] theorem State.branch_nmiPending (s : State) (cond : BranchCond) (rel : Byte) : (s.branch cond rel).nmiPending = s.nmiPending := rfl
@[simp] theorem State.branch_irqLine (s : State) (cond : BranchCond) (rel : Byte) : (s.branch cond rel).irqLine = s.irqLine := rfl
@[simp] theorem State.branch_mem (s : State) (cond : BranchCond) (rel : Byte) : (s.branch cond rel).mem = s.mem := rfl
@[simp] theorem State.branch_reports (s : State) (cond : BranchCond) (rel : Byte) : (s.branch cond rel).reports = s.reports := rfl
@[simp] theorem State.branch_apu (s : State) (cond : BranchCond) (rel : Byte) : (s.branch cond rel).apu = s.apu := rfl
@[simp] theorem State.branch_readCursor (s : State) (cond : BranchCond) (rel : Byte) : (s.branch cond rel).readCursor = s.readCursor := rfl
@[simp] theorem State.branch_hostQueue (s : State) (cond : BranchCond) (rel : Byte) : (s.branch cond rel).hostQueue = s.hostQueue := rfl
@[simp] theorem State.branch_config (s : State) (cond : BranchCond) (rel : Byte) : (s.branch cond rel).config = s.config := rfl
@[simp] theorem State.branch_freeCounter (s : State) (cond : BranchCond) (rel : Byte) : (s.branch cond rel).freeCounter = s.freeCounter := rfl

@[simp] theorem State.wakeOnIrq_c (s : State) : (s.wakeOnIrq).c = s.c := rfl
@[simp] theorem State.wakeOnIrq_x (s : State) : (s.wakeOnIrq).x = s.x := rfl
@[simp] theorem State.wakeOnIrq_y (s : State) : (s.wakeOnIrq).y = s.y := rfl
@[simp] theorem State.wakeOnIrq_sp (s : State) : (s.wakeOnIrq).sp = s.sp := rfl
@[simp] theorem State.wakeOnIrq_d (s : State) : (s.wakeOnIrq).d = s.d := rfl
@[simp] theorem State.wakeOnIrq_db (s : State) : (s.wakeOnIrq).db = s.db := rfl
@[simp] theorem State.wakeOnIrq_pb (s : State) : (s.wakeOnIrq).pb = s.pb := rfl
@[simp] theorem State.wakeOnIrq_pc (s : State) : (s.wakeOnIrq).pc = s.pc := rfl
@[simp] theorem State.wakeOnIrq_p (s : State) : (s.wakeOnIrq).p = s.p := rfl
@[simp] theorem State.wakeOnIrq_e (s : State) : (s.wakeOnIrq).e = s.e := rfl
@[simp] theorem State.wakeOnIrq_nmiPending (s : State) : (s.wakeOnIrq).nmiPending = s.nmiPending := rfl
@[simp] theorem State.wakeOnIrq_irqLine (s : State) : (s.wakeOnIrq).irqLine = s.irqLine := rfl
@[simp] theorem State.wakeOnIrq_mem (s : State) : (s.wakeOnIrq).mem = s.mem := rfl
@[simp] theorem State.wakeOnIrq_reports (s : State) : (s.wakeOnIrq).reports = s.reports := rfl
@[simp] theorem State.wakeOnIrq_apu (s : State) : (s.wakeOnIrq).apu = s.apu := rfl
@[simp] theorem State.wakeOnIrq_readCursor (s : State) : (s.wakeOnIrq).readCursor = s.readCursor := rfl
@[simp] theorem State.wakeOnIrq_hostQueue (s : State) : (s.wakeOnIrq).hostQueue = s.hostQueue := rfl
@[simp] theorem State.wakeOnIrq_config (s : State) : (s.wakeOnIrq).config = s.config := rfl
@[simp] theorem State.wakeOnIrq_freeCounter (s : State) : (s.wakeOnIrq).freeCounter = s.freeCounter := rfl

end Sys2Proof.Machine
end

