-- ==== Sys2Proof/Laws/Flags.lean ====
section
/-! SUPPORT. Laws of the status byte, of the widths, and of the flag computations. -/

namespace Sys2Proof.Machine

/-- Replacing one flag gives it the new value and leaves the other seven alone (R27). -/
theorem statusFlag_putFlag (p : Byte) (f g : Flag) (b : Bool) :
    statusFlag (putFlag p f b) g = if g = f then b else statusFlag p g := by
  cases b <;> cases f <;> cases g <;> simp [statusFlag, putFlag, flagBit]

@[simp] theorem statusFlag_putFlag_same (p : Byte) (f : Flag) (b : Bool) : statusFlag (putFlag p f b) f = b := by
  simp [statusFlag_putFlag]

@[simp] theorem statusFlag_putFlag_ne (p : Byte) {f g : Flag} (b : Bool) (h : g ≠ f) :
    statusFlag (putFlag p f b) g = statusFlag p g := by
  simp [statusFlag_putFlag, h]

/-- `SetNZ` writes N and Z from the value in its width and no other flag (R10). -/
theorem statusFlag_statusNZ (p : Byte) (v : Word) (w : Width) (g : Flag) :
    statusFlag (statusNZ p v w) g =
      if g = .n then v.getLsbD (widthTop w) else if g = .z then decide (trunc w v = 0) else statusFlag p g := by
  cases g <;> simp [statusNZ]

/-- An addition writes N, V, Z and C and no other flag (R163, R164). -/
theorem statusFlag_statusSum (p : Byte) (w : Width) (r : SumResult) (g : Flag) :
    statusFlag (statusSum p w r) g =
      if g = .n then r.value.getLsbD (widthTop w) else if g = .z then decide (trunc w r.value = 0)
      else if g = .v then r.overflow else if g = .c then r.carry else statusFlag p g := by
  cases g <;> simp [statusSum, statusFlag_statusNZ]

/-- A compare writes N, Z and C and no other flag (R168). -/
theorem statusFlag_statusCompare_kept (p : Byte) (w : Width) (r m : Word) (g : Flag)
    (hn : g ≠ .n) (hz : g ≠ .z) (hc : g ≠ .c) : statusFlag (statusCompare p w r m) g = statusFlag p g := by
  simp [statusCompare, statusFlag_statusNZ, hn, hz, hc]

/-- A read-modify-write writes N, Z, and C when it gives a carry (R190). -/
theorem statusFlag_statusModify (p : Byte) (w : Width) (r : ModifyResult) (g : Flag) :
    statusFlag (statusModify p w r) g =
      if g = .n then r.value.getLsbD (widthTop w) else if g = .z then decide (trunc w r.value = 0)
      else if g = .c then r.carry.getD (statusFlag p .c) else statusFlag p g := by
  obtain ⟨v, c⟩ := r
  cases c <;> cases g <;> simp [statusModify, statusFlag_statusNZ]

/-- The memory forms of `BIT` write N, V and Z and no other flag (R172). -/
theorem statusFlag_statusBit (p : Byte) (w : Width) (a m : Word) (g : Flag) :
    statusFlag (statusBit p w a m) g =
      if g = .v then m.getLsbD (widthTop w - 1) else if g = .n then m.getLsbD (widthTop w)
      else if g = .z then decide (trunc w (a &&& m) = 0) else statusFlag p g := by
  cases g <;> simp [statusBit]

/-- The tests of `BIT #`, `TSB` and `TRB` write Z and no other flag (R172, R201, R202). -/
theorem statusFlag_statusTest (p : Byte) (w : Width) (a m : Word) (g : Flag) :
    statusFlag (statusTest p w a m) g = if g = .z then decide (trunc w (a &&& m) = 0) else statusFlag p g := by
  cases g <;> simp [statusTest]

/-- The status byte is its eight flags (R27). -/
theorem status_ext {p q : Byte} (h : ∀ f, statusFlag p f = statusFlag q f) : p = q := by
  apply BitVec.eq_of_getLsbD_eq
  intro k hk
  have hn := h .n
  have hv := h .v
  have hm := h .m
  have hx := h .x
  have hd := h .d
  have hi := h .i
  have hz := h .z
  have hc := h .c
  simp only [statusFlag, flagBit] at hn hv hm hx hd hi hz hc
  interval_cases k <;> assumption

@[simp] theorem trunc_word (v : Word) : trunc .word v = v := by
  simp only [trunc, widthMask]
  exact BitVec.and_allOnes

theorem toNat_trunc (w : Width) (v : Word) : (trunc w v).toNat = v.toNat % 2 ^ w.bits := by
  cases w
  · rw [trunc, widthMask, BitVec.toNat_and, show (0x00FF : Word).toNat = 2 ^ 8 - 1 from rfl, Nat.and_two_pow_sub_one_eq_mod]
    rfl
  · have := v.isLt
    simp [Width.bits, Nat.mod_eq_of_lt this]

@[simp] theorem trunc_trunc (w : Width) (v : Word) : trunc w (trunc w v) = trunc w v := by
  apply BitVec.eq_of_toNat_eq
  simp [toNat_trunc]

theorem trunc_lt (w : Width) (v : Word) : (trunc w v).toNat < 2 ^ w.bits := by
  rw [toNat_trunc]
  exact Nat.mod_lt _ (by cases w <;> simp [Width.bits])

/-- A value below `2^(8w)` is its own truncation. -/
theorem trunc_of_lt {w : Width} {v : Word} (h : v.toNat < 2 ^ w.bits) : trunc w v = v := by
  apply BitVec.eq_of_toNat_eq
  rw [toNat_trunc, Nat.mod_eq_of_lt h]

/-- The high byte of a value truncated to a byte is zero. -/
@[simp] theorem highByte_trunc_byte (v : Word) : highByte (trunc .byte v) = 0 := by
  apply BitVec.eq_of_toNat_eq
  have h := trunc_lt .byte v
  simp only [Width.bits] at h
  simp [highByte, Nat.shiftRight_eq_div_pow]
  omega

theorem toNat_word16 (lo hi : Byte) : (word16 lo hi).toNat = lo.toNat + 256 * hi.toNat := by
  have := lo.isLt
  simp only [word16, BitVec.toNat_append]
  rw [← Nat.shiftLeft_add_eq_or_of_lt (by simpa using this), Nat.shiftLeft_eq]
  omega

@[simp] theorem lowByte_word16 (lo hi : Byte) : lowByte (word16 lo hi) = lo := by
  apply BitVec.eq_of_toNat_eq
  have h := lo.isLt
  simp only [lowByte, BitVec.extractLsb'_toNat, toNat_word16, Nat.shiftRight_zero]
  omega

@[simp] theorem highByte_word16 (lo hi : Byte) : highByte (word16 lo hi) = hi := by
  apply BitVec.eq_of_toNat_eq
  have h := lo.isLt
  have h' := hi.isLt
  simp only [highByte, BitVec.extractLsb'_toNat, toNat_word16, Nat.shiftRight_eq_div_pow]
  omega

theorem toNat_lowByte (v : Word) : (lowByte v).toNat = v.toNat % 256 := by
  simp [lowByte]

theorem toNat_highByte (v : Word) : (highByte v).toNat = v.toNat / 256 := by
  have h := v.isLt
  simp only [highByte, BitVec.extractLsb'_toNat, Nat.shiftRight_eq_div_pow]
  omega

@[simp] theorem word16_low_high (v : Word) : word16 (lowByte v) (highByte v) = v := by
  apply BitVec.eq_of_toNat_eq
  rw [toNat_word16, toNat_lowByte, toNat_highByte]
  omega

/-- Two words with the same bytes are the same word. -/
theorem word_ext {u v : Word} (hl : lowByte u = lowByte v) (hh : highByte u = highByte v) : u = v := by
  rw [← word16_low_high u, ← word16_low_high v, hl, hh]

/-- Writing the accumulator in a width and reading it back in that width (R22). -/
@[simp] theorem trunc_withAcc (c : Word) (w : Width) (v : Word) : trunc w (withAcc c w v) = trunc w v := by
  cases w
  · apply BitVec.eq_of_toNat_eq
    simp [toNat_trunc, withAcc, toNat_word16, Width.bits, lowByte]
  · simp [withAcc]

/-- An 8-bit write of the accumulator keeps `B` (R22). -/
@[simp] theorem highByte_withAcc_byte (c v : Word) : highByte (withAcc c .byte v) = highByte c := by
  simp [withAcc]

/-- `widthOf` in the terms of R9. -/
@[simp] theorem widthOf_eq_byte (b : Bool) : widthOf b = .byte ↔ b = true := by
  cases b <;> simp [widthOf]

end Sys2Proof.Machine
end

