-- ==== Sys2Proof/Laws/Forms.lean ====
section
/-! SUPPORT. One meaning for each family of instructions: what `exec` does with every instruction of a form. -/

namespace Sys2Proof.Machine

/-- The meaning that the instructions reading one operand share, by operation (R163 to R172, R290 to R292). -/
def dataMeaning (s : State) (o : DataOperand) : DataOp → Result
  | .adc => s.adc o
  | .sbc => s.sbc o
  | .and => .next (s.logic (· &&& ·) o)
  | .ora => .next (s.logic (· ||| ·) o)
  | .eor => .next (s.logic (· ^^^ ·) o)
  | .cmp => .next (s.compare (s.acc s.mw) (s.operand o s.mw) s.mw)
  | .cpx => .next (s.compare (s.xIn s.xw) (s.operand o s.xw) s.xw)
  | .cpy => .next (s.compare (s.yIn s.xw) (s.operand o s.xw) s.xw)
  | .bit => .next (s.bit o)
  | .lda => .next (s.loadAcc s.mw (s.operand o s.mw))
  | .ldx => .next (s.loadX (s.operand o s.xw))
  | .ldy => .next (s.loadY (s.operand o s.xw))

theorem exec_dataForm {i : Instr} {op : DataOp} {o : DataOperand} (s : State) (h : i.dataForm = some (op, o)) :
    exec i s = dataMeaning s o op := by
  cases i <;> cases h <;> rfl

/-- The meaning that the stores share (R293 to R296). -/
def storeMeaning (s : State) (mode : AddrMode) : StoreOp → Result
  | .sta => .next (s.writeData (s.ea mode) s.mw (s.acc s.mw))
  | .stx => .next (s.writeData (s.ea mode) s.xw (s.xIn s.xw))
  | .sty => .next (s.writeData (s.ea mode) s.xw (s.yIn s.xw))
  | .stz => .next (s.writeData (s.ea mode) s.mw 0)

theorem exec_storeForm {i : Instr} {op : StoreOp} {mode : AddrMode} (s : State)
    (h : i.storeForm = some (op, mode)) : exec i s = storeMeaning s mode op := by
  cases i <;> cases h <;> rfl

/-- The function of a read-modify-write (R191 to R196). -/
def modifyFunction : RmwOp → Width → Bool → Word → ModifyResult
  | .asl => fun w _ v => aslValue w v
  | .lsr => fun _ _ v => lsrValue v
  | .rol => rolValue
  | .ror => rorValue
  | .inc => fun w _ v => incValue w v
  | .dec => fun w _ v => decValue w v

theorem exec_rmwForm {i : Instr} {op : RmwOp} {target : RmwTarget} (s : State)
    (h : i.rmwForm = some (op, target)) : exec i s = .next (s.modify (modifyFunction op) target) := by
  cases i <;> cases h <;> rfl

/-- The function of `TSB` and `TRB` (R201, R202). -/
def testFunction : TestOp → Word → Word → Word
  | .tsb => fun v a => v ||| a
  | .trb => fun v a => v &&& ~~~a

theorem exec_testForm {i : Instr} {op : TestOp} {mode : AddrMode} (s : State)
    (h : i.testForm = some (op, mode)) : exec i s = .next (s.testBits (testFunction op) mode) := by
  cases i <;> cases h <;> rfl

theorem exec_branchForm {i : Instr} {cond : BranchCond} {rel : Byte} (s : State)
    (h : i.branchForm = some (cond, rel)) : exec i s = .next (s.branch cond rel) := by
  cases i <;> cases h <;> rfl

theorem exec_flagForm {i : Instr} {f : Flag} {b : Bool} (s : State) (h : i.flagForm = some (f, b)) :
    exec i s = .next (s.setFlag f b) := by
  cases i <;> cases h <;> rfl

end Sys2Proof.Machine
end

