-- ==== Sys2Proof/Laws/Memory.lean ====
section
/-! SUPPORT. Laws of memory: read after write, and the canonical form that every memory operation keeps. -/

namespace Sys2Proof.Machine

section Cells

variable {α : Type} [DecidableEq α] (dflt : α)

omit [DecidableEq α] in
theorem cellRead_filter_ne (m : List (Nat × α)) {j k : Nat} (h : j ≠ k) :
    cellRead dflt (m.filter (fun cell => cell.1 ≠ k)) j = cellRead dflt m j := by
  induction m with
  | nil => rfl
  | cons c rest ih =>
    by_cases hc : c.1 = k
    · have hj : ¬ c.1 = j := fun h' => h (h'.symm.trans hc)
      rw [List.filter_cons_of_neg (by simpa using hc), ih]
      simp [cellRead, hj]
    · rw [List.filter_cons_of_pos (by simpa using hc)]
      simp only [cellRead, ih]

omit [DecidableEq α] in
theorem cellRead_of_absent (m : List (Nat × α)) {k : Nat} (h : ∀ c ∈ m, c.1 ≠ k) : cellRead dflt m k = dflt := by
  induction m with
  | nil => rfl
  | cons c rest ih =>
    have hc : ¬ c.1 = k := h c (by simp)
    simp only [cellRead, hc, if_false]
    exact ih (fun c' h' => h c' (by simp [h']))

omit [DecidableEq α] in
theorem cellRead_insert_ne (m : List (Nat × α)) (k : Nat) (v : α) {j : Nat} (h : j ≠ k) :
    cellRead dflt (cellInsert (k, v) m) j = cellRead dflt m j := by
  induction m with
  | nil => simp [cellInsert, cellRead, Ne.symm h]
  | cons c rest ih =>
    by_cases hlt : k < c.1
    · simp [cellInsert, hlt, cellRead, Ne.symm h]
    · simp [cellInsert, hlt, cellRead, ih]

omit [DecidableEq α] in
theorem cellRead_insert_same (m : List (Nat × α)) (k : Nat) (v : α) (h : ∀ c ∈ m, c.1 ≠ k) :
    cellRead dflt (cellInsert (k, v) m) k = v := by
  induction m with
  | nil => simp [cellInsert, cellRead]
  | cons c rest ih =>
    have hc : ¬ c.1 = k := h c (by simp)
    by_cases hlt : k < c.1
    · simp [cellInsert, hlt, cellRead]
    · simp [cellInsert, hlt, cellRead, hc, ih (fun c' h' => h c' (by simp [h']))]

/-- A read after a write to the same key gives the value written, in any list. -/
theorem cellRead_cellWrite_same (m : List (Nat × α)) (k : Nat) (v : α) :
    cellRead dflt (cellWrite dflt m k v) k = v := by
  have habs : ∀ c ∈ m.filter (fun cell => cell.1 ≠ k), c.1 ≠ k := by
    intro c hc
    simpa using (List.mem_filter.mp hc).2
  unfold cellWrite
  split
  · rename_i hv
    rw [cellRead_of_absent dflt _ habs, hv]
  · exact cellRead_insert_same dflt _ k v habs

/-- A write leaves every other key alone, in any list. -/
theorem cellRead_cellWrite_ne (m : List (Nat × α)) (k : Nat) (v : α) {j : Nat} (h : j ≠ k) :
    cellRead dflt (cellWrite dflt m k v) j = cellRead dflt m j := by
  unfold cellWrite
  split
  · exact cellRead_filter_ne dflt m h
  · rw [cellRead_insert_ne dflt _ k v h, cellRead_filter_ne dflt m h]

/-- The canonical form in one phrase: keys strictly rising, no entry equal to the default. -/
theorem cellsCanonical_iff (m : List (Nat × α)) :
    cellsCanonical dflt m = true ↔ m.Pairwise (fun a b => a.1 < b.1) ∧ ∀ c ∈ m, c.2 ≠ dflt := by
  induction m with
  | nil => simp [cellsCanonical]
  | cons c rest ih =>
    cases rest with
    | nil => simp [cellsCanonical]
    | cons d rest =>
      simp only [cellsCanonical, Bool.and_eq_true, decide_eq_true_eq, ih]
      constructor
      · rintro ⟨⟨hlt, hne⟩, hp, hall⟩
        refine ⟨List.pairwise_cons.mpr ⟨?_, hp⟩, ?_⟩
        · intro e he
          rcases List.mem_cons.mp he with rfl | he
          · exact hlt
          · exact Nat.lt_trans hlt ((List.pairwise_cons.mp hp).1 e he)
        · intro e he
          rcases List.mem_cons.mp he with rfl | he
          · exact hne
          · exact hall e he
      · rintro ⟨hp, hall⟩
        obtain ⟨h1, h2⟩ := List.pairwise_cons.mp hp
        exact ⟨⟨h1 d (by simp), hall c (by simp)⟩, h2, fun e he => hall e (by simp [he])⟩

omit [DecidableEq α] in
theorem mem_cellInsert {m : List (Nat × α)} {c e : Nat × α} : e ∈ cellInsert c m ↔ e = c ∨ e ∈ m := by
  induction m with
  | nil => simp [cellInsert]
  | cons h rest ih =>
    by_cases hlt : c.1 < h.1
    · simp [cellInsert, hlt]
    · simp only [cellInsert, hlt, if_false, List.mem_cons, ih]
      tauto

omit [DecidableEq α] in
theorem pairwise_cellInsert {m : List (Nat × α)} {c : Nat × α} (hp : m.Pairwise (fun a b => a.1 < b.1))
    (h : ∀ e ∈ m, e.1 ≠ c.1) : (cellInsert c m).Pairwise (fun a b => a.1 < b.1) := by
  induction m with
  | nil => simp [cellInsert]
  | cons d rest ih =>
    obtain ⟨h1, h2⟩ := List.pairwise_cons.mp hp
    by_cases hlt : c.1 < d.1
    · simp only [cellInsert, hlt, if_true]
      refine List.pairwise_cons.mpr ⟨?_, hp⟩
      intro e he
      rcases List.mem_cons.mp he with rfl | he
      · exact hlt
      · exact Nat.lt_trans hlt (h1 e he)
    · simp only [cellInsert, hlt, if_false]
      have hd : d.1 < c.1 := by
        have := h d (by simp)
        omega
      refine List.pairwise_cons.mpr ⟨?_, ih h2 (fun e he => h e (by simp [he]))⟩
      intro e he
      rcases mem_cellInsert.mp he with rfl | he
      · exact hd
      · exact h1 e he

/-- A write keeps the canonical form. -/
theorem cellsCanonical_cellWrite {m : List (Nat × α)} (k : Nat) (v : α) (h : cellsCanonical dflt m = true) :
    cellsCanonical dflt (cellWrite dflt m k v) = true := by
  obtain ⟨hp, hne⟩ := (cellsCanonical_iff dflt m).mp h
  have hp' : (m.filter (fun cell => cell.1 ≠ k)).Pairwise (fun a b => a.1 < b.1) := hp.filter _
  have hne' : ∀ c ∈ m.filter (fun cell => cell.1 ≠ k), c.2 ≠ dflt :=
    fun c hc => hne c (List.mem_filter.mp hc).1
  have habs : ∀ c ∈ m.filter (fun cell => cell.1 ≠ k), c.1 ≠ k := by
    intro c hc
    simpa using (List.mem_filter.mp hc).2
  apply (cellsCanonical_iff dflt _).mpr
  unfold cellWrite
  split
  · exact ⟨hp', hne'⟩
  · rename_i hv
    refine ⟨pairwise_cellInsert hp' habs, fun c hc => ?_⟩
    rcases mem_cellInsert.mp hc with rfl | hc
    · exact hv
    · exact hne' c hc

/-- A write below a bound keeps every key below it. -/
theorem keys_lt_cellWrite {m : List (Nat × α)} {bound k : Nat} (v : α) (hk : k < bound)
    (h : m.all (fun cell => cell.1 < bound) = true) :
    (cellWrite dflt m k v).all (fun cell => cell.1 < bound) = true := by
  rw [List.all_eq_true] at h ⊢
  intro c hc
  unfold cellWrite at hc
  split at hc
  · exact h c (List.mem_filter.mp hc).1
  · rcases mem_cellInsert.mp hc with rfl | hc
    · simpa using hk
    · exact h c (List.mem_filter.mp hc).1

end Cells

/-! CPU memory. -/

@[simp] theorem memByte_memPutByte_same (m : Memory) (a : Addr) (v : Byte) : memByte (memPutByte m a v) a = v :=
  cellRead_cellWrite_same _ _ _ _

theorem memByte_memPutByte_ne (m : Memory) {a b : Addr} (v : Byte) (h : b ≠ a) :
    memByte (memPutByte m a v) b = memByte m b :=
  cellRead_cellWrite_ne _ _ _ _ (fun h' => h (BitVec.eq_of_toNat_eq h'))

theorem memByte_memPutByte (m : Memory) (a b : Addr) (v : Byte) :
    memByte (memPutByte m a v) b = if b = a then v else memByte m b := by
  split
  · rename_i h
    rw [h, memByte_memPutByte_same]
  · rename_i h
    exact memByte_memPutByte_ne m v h

theorem addr_ne_succ (a : Addr) : a ≠ a + 1 := by
  intro h
  simp at h

/-- The low byte of a stored word (R65). -/
@[simp] theorem memByte_memPutWord_low (m : Memory) (a : Addr) (v : Word) :
    memByte (memPutWord m a v) a = lowByte v := by
  rw [memPutWord, memByte_memPutByte_ne _ _ (addr_ne_succ a), memByte_memPutByte_same]

/-- The high byte of a stored word (R65). -/
@[simp] theorem memByte_memPutWord_high (m : Memory) (a : Addr) (v : Word) :
    memByte (memPutWord m a v) (a + 1#24) = highByte v :=
  memByte_memPutByte_same _ _ _

theorem memByte_memPutWord_ne (m : Memory) {a b : Addr} (v : Word) (h : b ≠ a) (h1 : b ≠ a + 1) :
    memByte (memPutWord m a v) b = memByte m b := by
  rw [memPutWord, memByte_memPutByte_ne _ _ h1, memByte_memPutByte_ne _ _ h]

/-- Every byte outside a store of a width is unchanged (R65, R68). -/
theorem memByte_memPutData_ne (m : Memory) {a b : Addr} (w : Width) (v : Word) (h : b ≠ a)
    (h1 : w = .word → b ≠ a + 1) : memByte (memPutData m a w v) b = memByte m b := by
  cases w with
  | byte => exact memByte_memPutByte_ne m _ h
  | word => exact memByte_memPutWord_ne m v h (h1 rfl)

theorem wf_memPutByte {m : Memory} (a : Addr) (v : Byte) (h : Memory.wf m = true) :
    Memory.wf (memPutByte m a v) = true := by
  simp only [Memory.wf, Bool.and_eq_true] at h ⊢
  exact ⟨cellsCanonical_cellWrite _ _ _ h.1, keys_lt_cellWrite _ _ a.isLt h.2⟩

theorem wf_memPutWord {m : Memory} (a : Addr) (v : Word) (h : Memory.wf m = true) :
    Memory.wf (memPutWord m a v) = true :=
  wf_memPutByte _ _ (wf_memPutByte _ _ h)

theorem wf_memPutData {m : Memory} (a : Addr) (w : Width) (v : Word) (h : Memory.wf m = true) :
    Memory.wf (memPutData m a w v) = true := by
  cases w with
  | byte => exact wf_memPutByte _ _ h
  | word => exact wf_memPutWord _ _ h

theorem wf_memPutInBank (bank : Byte) (bytes : List Byte) : ∀ {m : Memory} (off : Word), Memory.wf m = true →
    Memory.wf (memPutInBank m bank off bytes) = true := by
  induction bytes with
  | nil => exact fun _ h => h
  | cons v rest ih => exact fun off h => ih (off + 1) (wf_memPutByte _ _ h)

theorem wf_memPutBytes (bytes : List Byte) : ∀ {m : Memory} (a : Addr), Memory.wf m = true →
    Memory.wf (memPutBytes m a bytes) = true := by
  induction bytes with
  | nil => exact fun _ h => h
  | cons v rest ih => exact fun a h => ih (a + 1) (wf_memPutByte _ _ h)

/-- Memory after reset is canonical. -/
theorem wf_reset : Memory.wf State.reset.mem = true := rfl

/-! ARAM and the ring. -/

@[simp] theorem aramByte_aramPutByte_same (m : Memory) (a : Word) (v : Byte) :
    aramByte (aramPutByte m a v) a = v :=
  cellRead_cellWrite_same _ _ _ _

theorem aramByte_aramPutByte_ne (m : Memory) {a b : Word} (v : Byte) (h : b ≠ a) :
    aramByte (aramPutByte m a v) b = aramByte m b :=
  cellRead_cellWrite_ne _ _ _ _ (fun h' => h (BitVec.eq_of_toNat_eq h'))

theorem wf_aramPutByte {m : Memory} (a : Word) (v : Byte) (h : Aram.wf m = true) :
    Aram.wf (aramPutByte m a v) = true := by
  simp only [Aram.wf, Bool.and_eq_true] at h ⊢
  exact ⟨cellsCanonical_cellWrite _ _ _ h.1, keys_lt_cellWrite _ _ a.isLt h.2⟩

theorem wf_aramPutBytes (bytes : List Byte) : ∀ {m : Memory} (a : Word), Aram.wf m = true →
    Aram.wf (aramPutBytes m a bytes) = true := by
  induction bytes with
  | nil => exact fun _ h => h
  | cons v rest ih => exact fun a h => ih (a + 1) (wf_aramPutByte _ _ h)

theorem wf_uploadBlocks (fuel : Nat) : ∀ {m : Memory} (src : List Byte), Aram.wf m = true →
    Aram.wf (uploadBlocks fuel m src) = true := by
  induction fuel with
  | zero => exact fun _ h => h
  | succ fuel ih =>
    intro m src h
    unfold uploadBlocks
    split
    · dsimp only
      split
      · exact h
      · exact ih _ (wf_aramPutBytes _ _ h)
    · exact h

/-- An upload keeps ARAM canonical (R385). -/
theorem wf_upload {m : Memory} (src : List Byte) (h : Aram.wf m = true) : Aram.wf (upload m src) = true :=
  wf_uploadBlocks _ _ h

@[simp] theorem ringSample_ringPut_same (r : Ring) (i : Nat) (v : Sample) : ringSample (ringPut r i v) i = v :=
  cellRead_cellWrite_same _ _ _ _

theorem ringSample_ringPut_ne (r : Ring) {i j : Nat} (v : Sample) (h : j ≠ i) :
    ringSample (ringPut r i v) j = ringSample r j :=
  cellRead_cellWrite_ne _ _ _ _ h

theorem wf_ringPut {r : Ring} (i : Nat) (v : Sample) (h : Ring.wf r = true) : Ring.wf (ringPut r i v) = true :=
  cellsCanonical_cellWrite _ _ _ h

theorem wf_ringPut_foldl (entries : List (Nat × Sample)) : ∀ {r : Ring}, Ring.wf r = true →
    Ring.wf (entries.foldl (fun r entry => ringPut r entry.1 entry.2) r) = true := by
  induction entries with
  | nil => exact fun h => h
  | cons e rest ih => exact fun h => ih (wf_ringPut _ _ h)

/-- A ring given to an APU reset is canonical. -/
theorem wf_ringOf (entries : List (Nat × Sample)) : Ring.wf (ringOf entries) = true :=
  wf_ringPut_foldl entries rfl

end Sys2Proof.Machine
end

