-- ==== Sys2Proof/Laws/Ops.lean ====
section
/-! SUPPORT. What each shared operation over registers, the stack and memory does, said once. -/

namespace Sys2Proof.Machine

/-! Words and bytes. -/

theorem lowByte_add (u v : Word) : lowByte (u + v) = lowByte u + lowByte v := by
  apply BitVec.eq_of_toNat_eq
  simp only [toNat_lowByte, BitVec.toNat_add]
  omega

theorem toNat_addr24 (bank : Byte) (offset : Word) : (addr24 bank offset).toNat = 65536 * bank.toNat + offset.toNat := by
  have := offset.isLt
  simp only [addr24, BitVec.toNat_append]
  rw [← Nat.shiftLeft_add_eq_or_of_lt (by simpa using this), Nat.shiftLeft_eq]
  omega

@[simp] theorem toNat_bank0 (offset : Word) : (bank0 offset).toNat = offset.toNat := by
  simp [bank0, toNat_addr24]

theorem bank0_inj {u v : Word} : bank0 u = bank0 v ↔ u = v := by
  constructor
  · intro h
    exact BitVec.eq_of_toNat_eq (by simpa using congrArg BitVec.toNat h)
  · exact fun h => h ▸ rfl

@[simp] theorem bankOf_addr24 (bank : Byte) (offset : Word) : bankOf (addr24 bank offset) = bank := by
  apply BitVec.eq_of_toNat_eq
  have h := offset.isLt
  have h' := bank.isLt
  simp only [bankOf, BitVec.extractLsb'_toNat, toNat_addr24, Nat.shiftRight_eq_div_pow]
  omega

@[simp] theorem offsetOf_addr24 (bank : Byte) (offset : Word) : offsetOf (addr24 bank offset) = offset := by
  apply BitVec.eq_of_toNat_eq
  have h := offset.isLt
  simp only [offsetOf, BitVec.extractLsb'_toNat, toNat_addr24, Nat.shiftRight_zero]
  omega

theorem toNat_bankOf_offsetOf (a : Addr) : 65536 * (bankOf a).toNat + (offsetOf a).toNat = a.toNat := by
  have h := a.isLt
  simp only [bankOf, offsetOf, BitVec.extractLsb'_toNat, Nat.shiftRight_eq_div_pow]
  omega

/-! The stack pointer (R260, R262). -/

/-- Two moves of the stack pointer are one. -/
theorem stackMove_stackMove (e : Bool) (sp u v : Word) :
    stackMove e (stackMove e sp u) v = stackMove e sp (u + v) := by
  cases e
  · simp [stackMove, BitVec.add_assoc]
  · simp only [stackMove, if_true, highByte_word16, lowByte_add, lowByte_word16, BitVec.add_assoc]

/-- A move by nothing leaves the stack pointer. -/
@[simp] theorem stackMove_zero (e : Bool) (sp : Word) : stackMove e sp 0#16 = sp := by
  cases e <;> simp [stackMove]

/-- In emulation mode the stack pointer's high byte never moves (R24). -/
@[simp] theorem highByte_stackMove_emulation (sp u : Word) : highByte (stackMove true sp u) = highByte sp := by
  simp [stackMove]

/-- A move by fewer than 256 bytes and not none is a move. -/
theorem stackMove_inj {e : Bool} {sp u v : Word} (h : stackMove e sp u = stackMove e sp v) : lowByte u = lowByte v := by
  cases e
  · have := congrArg lowByte h
    simpa [stackMove, lowByte_add] using this
  · have := congrArg lowByte h
    simpa [stackMove, lowByte_add] using this

/-! Pushes and pulls. -/

@[simp] theorem push8_sp (s : State) (v : Byte) : (s.push8 v).sp = stackMove s.e s.sp (-1) := rfl

@[simp] theorem push8_mem (s : State) (v : Byte) : (s.push8 v).mem = memPutByte s.mem (bank0 s.sp) v := rfl

/-- A push changes the stack pointer and memory only (R260). -/
theorem push8_frame (s : State) (v : Byte) :
    s.push8 v = { s with sp := (s.push8 v).sp, mem := (s.push8 v).mem } := rfl

/-- A 16-bit push moves the stack pointer by two (R261). -/
@[simp] theorem push16_sp (s : State) (v : Word) : (s.push16 v).sp = stackMove s.e s.sp (-2) := by
  show stackMove s.e (stackMove s.e s.sp (-1)) (-1) = _
  rw [stackMove_stackMove]
  rfl

/-- The high byte goes first, so the low byte is the lower one (R261). -/
@[simp] theorem push16_mem (s : State) (v : Word) : (s.push16 v).mem =
    memPutByte (memPutByte s.mem (bank0 s.sp) (highByte v)) (bank0 (stackMove s.e s.sp (-1))) (lowByte v) := rfl

theorem push16_frame (s : State) (v : Word) :
    s.push16 v = { s with sp := (s.push16 v).sp, mem := (s.push16 v).mem } := rfl

@[simp] theorem pulled_sp (s : State) : s.pulled.sp = stackMove s.e s.sp 1 := rfl

/-- A pull reads the byte the moved stack pointer points at (R262). -/
theorem pull8_eq (s : State) : s.pull8 = memByte s.mem (bank0 (stackMove s.e s.sp 1)) := rfl

/-- A 16-bit pull reads the low byte, then the high byte (R263). -/
theorem pull16_eq (s : State) : s.pull16 =
    word16 (memByte s.mem (bank0 (stackMove s.e s.sp 1))) (memByte s.mem (bank0 (stackMove s.e s.sp 2))) := by
  show word16 _ (memByte s.mem (bank0 (stackMove s.e (stackMove s.e s.sp 1) 1))) = _
  rw [stackMove_stackMove]
  rfl

@[simp] theorem pulled_pulled_sp (s : State) : s.pulled.pulled.sp = stackMove s.e s.sp 2 := by
  show stackMove s.e (stackMove s.e s.sp 1) 1 = _
  rw [stackMove_stackMove]
  rfl

/-- A pull changes the stack pointer only. -/
theorem pulled_frame (s : State) : s.pulled = { s with sp := s.pulled.sp } := rfl

/-- A byte pulled straight after it was pushed is that byte, and the stack pointer is back (R260, R262). -/
theorem pull8_push8 (s : State) (v : Byte) : (s.push8 v).pull8 = v ∧ (s.push8 v).pulled.sp = s.sp := by
  have h : stackMove s.e (stackMove s.e s.sp (-1)) 1 = s.sp := by
    rw [stackMove_stackMove]
    exact stackMove_zero _ _
  constructor
  · show memByte (memPutByte s.mem (bank0 s.sp) v) (bank0 (stackMove s.e (stackMove s.e s.sp (-1)) 1)) = v
    rw [h, memByte_memPutByte_same]
  · exact h

/-! The status byte as a whole. -/

/-- What `SetP` leaves in `P` (R280). -/
@[simp] theorem setP_p (s : State) (v : Byte) : (s.setP v).p = if s.e then v ||| 0x30 else v := rfl

/-- `SetP` clears the index high bytes when X is 1 (R280). -/
theorem setP_x (s : State) (v : Byte) :
    (s.setP v).x = if (s.setP v).flag .x then trunc .byte s.x else s.x := by
  show trunc (if statusFlag (if s.e then v ||| 0x30 else v) .x then .byte else .word) s.x =
    if statusFlag (if s.e then v ||| 0x30 else v) .x then trunc .byte s.x else s.x
  cases statusFlag (if s.e then v ||| 0x30 else v) .x <;> simp

theorem setP_y (s : State) (v : Byte) :
    (s.setP v).y = if (s.setP v).flag .x then trunc .byte s.y else s.y := by
  show trunc (if statusFlag (if s.e then v ||| 0x30 else v) .x then .byte else .word) s.y =
    if statusFlag (if s.e then v ||| 0x30 else v) .x then trunc .byte s.y else s.y
  cases statusFlag (if s.e then v ||| 0x30 else v) .x <;> simp

/-- `SetP` changes `P`, `X` and `Y` only. -/
theorem setP_frame (s : State) (v : Byte) :
    s.setP v = { s with p := (s.setP v).p, x := (s.setP v).x, y := (s.setP v).y } := rfl

/-- In emulation mode `SetP` leaves M and X at 1 (R28). -/
theorem setP_widths (s : State) (v : Byte) (h : s.e = true) :
    (s.setP v).flag .m = true ∧ (s.setP v).flag .x = true := by
  simp [State.flag, statusFlag, flagBit, h]

/-! Traps. -/

/-- Trap entry changes the stack pointer, memory, `P`, `PB` and `PC` only (R445). -/
theorem trapEnter_frame (s : State) (k : Trap) : s.trapEnter k =
    { s with
      sp := (s.trapEnter k).sp
      mem := (s.trapEnter k).mem
      p := (s.trapEnter k).p
      pb := (s.trapEnter k).pb
      pc := (s.trapEnter k).pc } := by
  cases h : s.e <;> simp [State.trapEnter, State.trapPushes, State.push16, State.push8, h]

/-- What trap entry does to the status (R445). -/
theorem trapEnter_p (s : State) (k : Trap) : (s.trapEnter k).p = putFlag (putFlag s.p .i true) .d false := by
  cases h : s.e <;> simp [State.trapEnter, State.trapPushes, State.push16, State.push8, h]

/-- The stack pointer after trap entry: three bytes in emulation mode, four in native mode (R445). -/
theorem trapEnter_sp (s : State) (k : Trap) :
    (s.trapEnter k).sp = stackMove s.e s.sp (if s.e then -3 else -4) := by
  cases h : s.e <;>
    simp [State.trapEnter, State.trapPushes, h, State.push8, stackMove_stackMove]

/-- A return from a trap changes `P`, `X`, `Y`, `PC`, `PB` and the stack pointer only (R237). -/
theorem trapReturn_frame (s : State) : s.trapReturn =
    { s with
      p := s.trapReturn.p
      x := s.trapReturn.x
      y := s.trapReturn.y
      pc := s.trapReturn.pc
      pb := s.trapReturn.pb
      sp := s.trapReturn.sp } := by
  cases h : s.e <;> simp [State.trapReturn, State.setP, State.pulled, h]

/-! Read-modify-write and additions. -/

/-- An addition changes the accumulator and the status only. -/
theorem applySum_frame (s : State) (w : Width) (r : SumResult) :
    s.applySum w r = { s with c := (s.applySum w r).c, p := (s.applySum w r).p } := rfl

/-- What `ADC` and `SBC` answer: the binary sum, the decimal one with a free value drawn, or the refusal
(R163, R164; log entries 10 and 11). -/
theorem sum_cases (s : State) (w : Width) (a m : Word) (bin : SumResult) (dec : Word × Bool) :
    ((s.flag .d = false ∨ s.config.decimalMode = .binary) ∧ s.sum w a m bin dec = .next (s.applySum w bin)) ∨
    (s.flag .d = true ∧ s.config.decimalMode = .bcd ∧ s.sum w a m bin dec =
      .next { s.applySum w (s.decimalResult w a m dec) with freeCounter := s.freeCounter + 1 }) ∨
    (s.flag .d = true ∧ s.config.decimalMode = .refuse ∧ s.sum w a m bin dec = .refused .decimalModeRefuses) := by
  cases hd : s.flag .d <;> cases hm : s.config.decimalMode <;> simp [State.sum, hd, hm]

/-- A read-modify-write changes its target and the status only (R190). -/
theorem modify_frame (s : State) (f : Width → Bool → Word → ModifyResult) (t : RmwTarget) :
    s.modify f t = { s with c := (s.modify f t).c, mem := (s.modify f t).mem, p := (s.modify f t).p } := by
  cases t <;> rfl

/-! Values in a width. -/

theorem memData_lt (m : Memory) (a : Addr) (w : Width) : (memData m a w).toNat < 2 ^ w.bits := by
  cases w
  · simp only [memData, Width.bits, BitVec.toNat_setWidth]
    have := (memByte m a).isLt
    omega
  · exact (memData m a .word).isLt

theorem operand_lt (s : State) (o : DataOperand) (w : Width) : (s.operand o w).toNat < 2 ^ w.bits := by
  cases o
  · exact trunc_lt _ _
  · exact memData_lt _ _ _

/-- A value of a width in memory, byte by byte (R64, R68). -/
theorem toNat_memData (m : Memory) (a : Addr) (w : Width) : (memData m a w).toNat =
    (memByte m a).toNat + (if w = .word then 256 * (memByte m (a + 1)).toNat else 0) := by
  cases w
  · have := (memByte m a).isLt
    simp only [memData, BitVec.toNat_setWidth, reduceCtorEq, if_false]
    omega
  · simp [memData, memWord, toNat_word16]

/-- The flag that a top bit is, as an inequality. -/
theorem getLsbD_widthTop (w : Width) (v : Word) (h : v.toNat < 2 ^ w.bits) :
    v.getLsbD (widthTop w) = decide (2 ^ (w.bits - 1) ≤ v.toNat) := by
  cases w
  · simp only [BitVec.getLsbD, widthTop, Width.bits, Nat.testBit_eq_decide_div_mod_eq] at *
    congr 1
    apply propext
    constructor <;> intro h' <;> omega
  · simp only [BitVec.getLsbD, widthTop, Width.bits, Nat.testBit_eq_decide_div_mod_eq] at *
    congr 1
    apply propext
    constructor <;> intro h' <;> omega

/-- The test bit above a width is the carry out of it. -/
theorem testBit_width (w : Width) {n : Nat} (h : n < 2 * 2 ^ w.bits) : n.testBit w.bits = decide (2 ^ w.bits ≤ n) := by
  cases w <;> simp only [Width.bits, Nat.testBit_eq_decide_div_mod_eq] at * <;>
    (congr 1; apply propext; constructor <;> intro h' <;> omega)

theorem toNat_complement (w : Width) (m : Word) (h : m.toNat < 2 ^ w.bits) :
    (complement w m).toNat = 2 ^ w.bits - 1 - m.toNat := by
  have hm := m.isLt
  cases w <;> simp only [complement, toNat_trunc, Width.bits, BitVec.toNat_not] at * <;> omega

end Sys2Proof.Machine
end

