-- ==== Sys2Proof/Laws/PerInstr.lean ====
section
/-! SUPPORT. One lemma per constructor: the decoder, given the bytes of an instruction and anything after them,
answers that instruction and its length. -/

namespace Sys2Proof.Laws

/-- A 16-bit operand is its two bytes, low byte first (R92). -/
theorem word16_bytes (v : Word) : word16 (lowByte v) (highByte v) = v := by
  simp

/-- A 24-bit operand is its three bytes, the bank last (R92). -/
theorem long24_bytes (a : Addr) : long24 (lowByte (offsetOf a)) (highByte (offsetOf a)) (bankOf a) = a := by
  apply BitVec.eq_of_toNat_eq
  rw [long24, word16_bytes, Machine.toNat_addr24, Machine.toNat_bankOf_offsetOf]

namespace DecodesOwnBytes

/-- Byte `k` of the instruction's encoding with some bytes after it. -/
def byteOf (i : Instr) (tail : List Byte) (k : Nat) : Byte := (encode i ++ tail).getD k 0

/-- The decoder reads the instruction and its length from its own bytes, whatever follows them. -/
def Statement (i : Instr) : Prop :=
  ∀ (ctx : DecodeContext) (tail : List Byte), i.wellFormed ctx = true →
    decodeBytes ctx (byteOf i tail 0) (byteOf i tail 1) (byteOf i tail 2) (byteOf i tail 3) = (i, i.length)

/-- An instruction that is its opcode byte. -/
theorem of_opcode {i : Instr} {op : Byte} (he : encode i = [op])
    (hd : ∀ ctx b1 b2 b3, decodeBytes ctx op b1 b2 b3 = (i, 1)) : Statement i := by
  intro ctx tail _
  simp only [byteOf, Instr.length, he, List.cons_append, List.nil_append, List.getD_cons_zero, hd, List.length_cons,
    List.length_nil]

/-- An instruction with one operand byte. -/
theorem of_byte {i : Instr} {op v : Byte} (he : encode i = [op, v])
    (hd : ∀ ctx b2 b3, decodeBytes ctx op v b2 b3 = (i, 2)) : Statement i := by
  intro ctx tail _
  simp only [byteOf, Instr.length, he, List.cons_append, List.nil_append, List.getD_cons_zero,
    List.getD_cons_succ, hd, List.length_cons, List.length_nil]

/-- An instruction with two operand bytes. -/
theorem of_bytes {i : Instr} {op v w : Byte} (he : encode i = [op, v, w])
    (hd : ∀ ctx b3, decodeBytes ctx op v w b3 = (i, 3)) : Statement i := by
  intro ctx tail _
  simp only [byteOf, Instr.length, he, List.cons_append, List.nil_append, List.getD_cons_zero,
    List.getD_cons_succ, hd, List.length_cons, List.length_nil]

/-- An instruction with a 16-bit operand. -/
theorem of_word {mk : Word → Instr} {op : Byte} (v : Word) (he : encode (mk v) = op :: wordBytes v)
    (hd : ∀ ctx b1 b2 b3, decodeBytes ctx op b1 b2 b3 = (mk (word16 b1 b2), 3)) : Statement (mk v) := by
  intro ctx tail _
  simp only [byteOf, Instr.length, he, wordBytes, List.cons_append, List.nil_append, List.getD_cons_zero,
    List.getD_cons_succ, hd, word16_bytes, List.length_cons, List.length_nil]

/-- An instruction with a 24-bit operand. -/
theorem of_long {mk : Addr → Instr} {op : Byte} (v : Addr) (he : encode (mk v) = op :: longBytes v)
    (hd : ∀ ctx b1 b2 b3, decodeBytes ctx op b1 b2 b3 = (mk (long24 b1 b2 b3), 4)) : Statement (mk v) := by
  intro ctx tail _
  simp only [byteOf, Instr.length, he, longBytes, List.cons_append, List.nil_append, List.getD_cons_zero,
    List.getD_cons_succ, hd, long24_bytes, List.length_cons, List.length_nil]

/-- An instruction with an immediate of the width that a predicate selects. -/
theorem of_immediate {mk : Immediate → Instr} {op : Byte} {eightBit : DecodeContext → Bool} (imm : Immediate)
    (he : ∀ v, encode (mk v) = op :: immediateBytes v) (hw : ∀ ctx, (mk imm).wellFormed ctx = imm.fits (eightBit ctx))
    (hd : ∀ ctx b1 b2 b3, decodeBytes ctx op b1 b2 b3 = decodeImmediate (eightBit ctx) mk b1 b2) :
    Statement (mk imm) := by
  intro ctx tail h
  rw [hw] at h
  cases imm with
  | byte v =>
    simp only [Immediate.fits] at h
    simp [byteOf, Instr.length, he, immediateBytes, hd, decodeImmediate, h]
  | word v =>
    simp only [Immediate.fits, Bool.not_eq_true'] at h
    simp [byteOf, Instr.length, he, immediateBytes, wordBytes, hd, decodeImmediate, h]

theorem brk (imm : Byte) : Statement (.brk imm) := of_byte rfl (fun _ _ _ => rfl)
theorem oraDpIndX (d : Byte) : Statement (.oraDpIndX d) := of_byte rfl (fun _ _ _ => rfl)
theorem cop (imm : Byte) : Statement (.cop imm) := of_byte rfl (fun _ _ _ => rfl)
theorem oraSr (d : Byte) : Statement (.oraSr d) := of_byte rfl (fun _ _ _ => rfl)
theorem tsbDp (d : Byte) : Statement (.tsbDp d) := of_byte rfl (fun _ _ _ => rfl)
theorem oraDp (d : Byte) : Statement (.oraDp d) := of_byte rfl (fun _ _ _ => rfl)
theorem aslDp (d : Byte) : Statement (.aslDp d) := of_byte rfl (fun _ _ _ => rfl)
theorem oraDpIndLong (d : Byte) : Statement (.oraDpIndLong d) := of_byte rfl (fun _ _ _ => rfl)
theorem php : Statement .php := of_opcode rfl (fun _ _ _ _ => rfl)
theorem oraImm (imm : Immediate) : Statement (.oraImm imm) :=
  of_immediate (eightBit := DecodeContext.m8) imm (fun _ => rfl) (fun _ => rfl) (fun _ _ _ _ => rfl)
theorem aslAcc : Statement .aslAcc := of_opcode rfl (fun _ _ _ _ => rfl)
theorem phd : Statement .phd := of_opcode rfl (fun _ _ _ _ => rfl)
theorem tsbAbs (v : Word) : Statement (.tsbAbs v) := of_word v rfl (fun _ _ _ _ => rfl)
theorem oraAbs (v : Word) : Statement (.oraAbs v) := of_word v rfl (fun _ _ _ _ => rfl)
theorem aslAbs (v : Word) : Statement (.aslAbs v) := of_word v rfl (fun _ _ _ _ => rfl)
theorem oraLong (v : Addr) : Statement (.oraLong v) := of_long v rfl (fun _ _ _ _ => rfl)
theorem bpl (rel : Byte) : Statement (.bpl rel) := of_byte rfl (fun _ _ _ => rfl)
theorem oraDpIndY (d : Byte) : Statement (.oraDpIndY d) := of_byte rfl (fun _ _ _ => rfl)
theorem oraDpInd (d : Byte) : Statement (.oraDpInd d) := of_byte rfl (fun _ _ _ => rfl)
theorem oraSrIndY (d : Byte) : Statement (.oraSrIndY d) := of_byte rfl (fun _ _ _ => rfl)
theorem trbDp (d : Byte) : Statement (.trbDp d) := of_byte rfl (fun _ _ _ => rfl)
theorem oraDpX (d : Byte) : Statement (.oraDpX d) := of_byte rfl (fun _ _ _ => rfl)
theorem aslDpX (d : Byte) : Statement (.aslDpX d) := of_byte rfl (fun _ _ _ => rfl)
theorem oraDpIndLongY (d : Byte) : Statement (.oraDpIndLongY d) := of_byte rfl (fun _ _ _ => rfl)
theorem clc : Statement .clc := of_opcode rfl (fun _ _ _ _ => rfl)
theorem oraAbsY (v : Word) : Statement (.oraAbsY v) := of_word v rfl (fun _ _ _ _ => rfl)
theorem incAcc : Statement .incAcc := of_opcode rfl (fun _ _ _ _ => rfl)
theorem tcs : Statement .tcs := of_opcode rfl (fun _ _ _ _ => rfl)
theorem trbAbs (v : Word) : Statement (.trbAbs v) := of_word v rfl (fun _ _ _ _ => rfl)
theorem oraAbsX (v : Word) : Statement (.oraAbsX v) := of_word v rfl (fun _ _ _ _ => rfl)
theorem aslAbsX (v : Word) : Statement (.aslAbsX v) := of_word v rfl (fun _ _ _ _ => rfl)
theorem oraLongX (v : Addr) : Statement (.oraLongX v) := of_long v rfl (fun _ _ _ _ => rfl)
theorem jsrAbs (v : Word) : Statement (.jsrAbs v) := of_word v rfl (fun _ _ _ _ => rfl)
theorem andDpIndX (d : Byte) : Statement (.andDpIndX d) := of_byte rfl (fun _ _ _ => rfl)
theorem jsl (v : Addr) : Statement (.jsl v) := of_long v rfl (fun _ _ _ _ => rfl)
theorem andSr (d : Byte) : Statement (.andSr d) := of_byte rfl (fun _ _ _ => rfl)
theorem bitDp (d : Byte) : Statement (.bitDp d) := of_byte rfl (fun _ _ _ => rfl)
theorem andDp (d : Byte) : Statement (.andDp d) := of_byte rfl (fun _ _ _ => rfl)
theorem rolDp (d : Byte) : Statement (.rolDp d) := of_byte rfl (fun _ _ _ => rfl)
theorem andDpIndLong (d : Byte) : Statement (.andDpIndLong d) := of_byte rfl (fun _ _ _ => rfl)
theorem plp : Statement .plp := of_opcode rfl (fun _ _ _ _ => rfl)
theorem andImm (imm : Immediate) : Statement (.andImm imm) :=
  of_immediate (eightBit := DecodeContext.m8) imm (fun _ => rfl) (fun _ => rfl) (fun _ _ _ _ => rfl)
theorem rolAcc : Statement .rolAcc := of_opcode rfl (fun _ _ _ _ => rfl)
theorem pld : Statement .pld := of_opcode rfl (fun _ _ _ _ => rfl)
theorem bitAbs (v : Word) : Statement (.bitAbs v) := of_word v rfl (fun _ _ _ _ => rfl)
theorem andAbs (v : Word) : Statement (.andAbs v) := of_word v rfl (fun _ _ _ _ => rfl)
theorem rolAbs (v : Word) : Statement (.rolAbs v) := of_word v rfl (fun _ _ _ _ => rfl)
theorem andLong (v : Addr) : Statement (.andLong v) := of_long v rfl (fun _ _ _ _ => rfl)
theorem bmi (rel : Byte) : Statement (.bmi rel) := of_byte rfl (fun _ _ _ => rfl)
theorem andDpIndY (d : Byte) : Statement (.andDpIndY d) := of_byte rfl (fun _ _ _ => rfl)
theorem andDpInd (d : Byte) : Statement (.andDpInd d) := of_byte rfl (fun _ _ _ => rfl)
theorem andSrIndY (d : Byte) : Statement (.andSrIndY d) := of_byte rfl (fun _ _ _ => rfl)
theorem bitDpX (d : Byte) : Statement (.bitDpX d) := of_byte rfl (fun _ _ _ => rfl)
theorem andDpX (d : Byte) : Statement (.andDpX d) := of_byte rfl (fun _ _ _ => rfl)
theorem rolDpX (d : Byte) : Statement (.rolDpX d) := of_byte rfl (fun _ _ _ => rfl)
theorem andDpIndLongY (d : Byte) : Statement (.andDpIndLongY d) := of_byte rfl (fun _ _ _ => rfl)
theorem sec : Statement .sec := of_opcode rfl (fun _ _ _ _ => rfl)
theorem andAbsY (v : Word) : Statement (.andAbsY v) := of_word v rfl (fun _ _ _ _ => rfl)
theorem decAcc : Statement .decAcc := of_opcode rfl (fun _ _ _ _ => rfl)
theorem tsc : Statement .tsc := of_opcode rfl (fun _ _ _ _ => rfl)
theorem bitAbsX (v : Word) : Statement (.bitAbsX v) := of_word v rfl (fun _ _ _ _ => rfl)
theorem andAbsX (v : Word) : Statement (.andAbsX v) := of_word v rfl (fun _ _ _ _ => rfl)
theorem rolAbsX (v : Word) : Statement (.rolAbsX v) := of_word v rfl (fun _ _ _ _ => rfl)
theorem andLongX (v : Addr) : Statement (.andLongX v) := of_long v rfl (fun _ _ _ _ => rfl)
theorem rti : Statement .rti := of_opcode rfl (fun _ _ _ _ => rfl)
theorem eorDpIndX (d : Byte) : Statement (.eorDpIndX d) := of_byte rfl (fun _ _ _ => rfl)
theorem wdm (operand : Option Byte) : Statement (.wdm operand) := by
  intro ctx tail h
  obtain ⟨m8, x8, known⟩ := ctx
  cases operand with
  | none =>
    obtain rfl : known = false := by simpa [Instr.wellFormed] using h
    simp [byteOf, encode, Instr.length, decodeBytes, decodeRow4, decodeReserved]
  | some v =>
    obtain rfl : known = true := by simpa [Instr.wellFormed] using h
    simp [byteOf, encode, Instr.length, decodeBytes, decodeRow4, decodeReserved]
theorem eorSr (d : Byte) : Statement (.eorSr d) := of_byte rfl (fun _ _ _ => rfl)
theorem mvp (dst src : Byte) : Statement (.mvp dst src) := of_bytes rfl (fun _ _ => rfl)
theorem eorDp (d : Byte) : Statement (.eorDp d) := of_byte rfl (fun _ _ _ => rfl)
theorem lsrDp (d : Byte) : Statement (.lsrDp d) := of_byte rfl (fun _ _ _ => rfl)
theorem eorDpIndLong (d : Byte) : Statement (.eorDpIndLong d) := of_byte rfl (fun _ _ _ => rfl)
theorem pha : Statement .pha := of_opcode rfl (fun _ _ _ _ => rfl)
theorem eorImm (imm : Immediate) : Statement (.eorImm imm) :=
  of_immediate (eightBit := DecodeContext.m8) imm (fun _ => rfl) (fun _ => rfl) (fun _ _ _ _ => rfl)
theorem lsrAcc : Statement .lsrAcc := of_opcode rfl (fun _ _ _ _ => rfl)
theorem phk : Statement .phk := of_opcode rfl (fun _ _ _ _ => rfl)
theorem jmpAbs (v : Word) : Statement (.jmpAbs v) := of_word v rfl (fun _ _ _ _ => rfl)
theorem eorAbs (v : Word) : Statement (.eorAbs v) := of_word v rfl (fun _ _ _ _ => rfl)
theorem lsrAbs (v : Word) : Statement (.lsrAbs v) := of_word v rfl (fun _ _ _ _ => rfl)
theorem eorLong (v : Addr) : Statement (.eorLong v) := of_long v rfl (fun _ _ _ _ => rfl)
theorem bvc (rel : Byte) : Statement (.bvc rel) := of_byte rfl (fun _ _ _ => rfl)
theorem eorDpIndY (d : Byte) : Statement (.eorDpIndY d) := of_byte rfl (fun _ _ _ => rfl)
theorem eorDpInd (d : Byte) : Statement (.eorDpInd d) := of_byte rfl (fun _ _ _ => rfl)
theorem eorSrIndY (d : Byte) : Statement (.eorSrIndY d) := of_byte rfl (fun _ _ _ => rfl)
theorem mvn (dst src : Byte) : Statement (.mvn dst src) := of_bytes rfl (fun _ _ => rfl)
theorem eorDpX (d : Byte) : Statement (.eorDpX d) := of_byte rfl (fun _ _ _ => rfl)
theorem lsrDpX (d : Byte) : Statement (.lsrDpX d) := of_byte rfl (fun _ _ _ => rfl)
theorem eorDpIndLongY (d : Byte) : Statement (.eorDpIndLongY d) := of_byte rfl (fun _ _ _ => rfl)
theorem cli : Statement .cli := of_opcode rfl (fun _ _ _ _ => rfl)
theorem eorAbsY (v : Word) : Statement (.eorAbsY v) := of_word v rfl (fun _ _ _ _ => rfl)
theorem phy : Statement .phy := of_opcode rfl (fun _ _ _ _ => rfl)
theorem tcd : Statement .tcd := of_opcode rfl (fun _ _ _ _ => rfl)
theorem jmlLong (v : Addr) : Statement (.jmlLong v) := of_long v rfl (fun _ _ _ _ => rfl)
theorem eorAbsX (v : Word) : Statement (.eorAbsX v) := of_word v rfl (fun _ _ _ _ => rfl)
theorem lsrAbsX (v : Word) : Statement (.lsrAbsX v) := of_word v rfl (fun _ _ _ _ => rfl)
theorem eorLongX (v : Addr) : Statement (.eorLongX v) := of_long v rfl (fun _ _ _ _ => rfl)
theorem rts : Statement .rts := of_opcode rfl (fun _ _ _ _ => rfl)
theorem adcDpIndX (d : Byte) : Statement (.adcDpIndX d) := of_byte rfl (fun _ _ _ => rfl)
theorem per (v : Word) : Statement (.per v) := of_word v rfl (fun _ _ _ _ => rfl)
theorem adcSr (d : Byte) : Statement (.adcSr d) := of_byte rfl (fun _ _ _ => rfl)
theorem stzDp (d : Byte) : Statement (.stzDp d) := of_byte rfl (fun _ _ _ => rfl)
theorem adcDp (d : Byte) : Statement (.adcDp d) := of_byte rfl (fun _ _ _ => rfl)
theorem rorDp (d : Byte) : Statement (.rorDp d) := of_byte rfl (fun _ _ _ => rfl)
theorem adcDpIndLong (d : Byte) : Statement (.adcDpIndLong d) := of_byte rfl (fun _ _ _ => rfl)
theorem pla : Statement .pla := of_opcode rfl (fun _ _ _ _ => rfl)
theorem adcImm (imm : Immediate) : Statement (.adcImm imm) :=
  of_immediate (eightBit := DecodeContext.m8) imm (fun _ => rfl) (fun _ => rfl) (fun _ _ _ _ => rfl)
theorem rorAcc : Statement .rorAcc := of_opcode rfl (fun _ _ _ _ => rfl)
theorem rtl : Statement .rtl := of_opcode rfl (fun _ _ _ _ => rfl)
theorem jmpInd (v : Word) : Statement (.jmpInd v) := of_word v rfl (fun _ _ _ _ => rfl)
theorem adcAbs (v : Word) : Statement (.adcAbs v) := of_word v rfl (fun _ _ _ _ => rfl)
theorem rorAbs (v : Word) : Statement (.rorAbs v) := of_word v rfl (fun _ _ _ _ => rfl)
theorem adcLong (v : Addr) : Statement (.adcLong v) := of_long v rfl (fun _ _ _ _ => rfl)
theorem bvs (rel : Byte) : Statement (.bvs rel) := of_byte rfl (fun _ _ _ => rfl)
theorem adcDpIndY (d : Byte) : Statement (.adcDpIndY d) := of_byte rfl (fun _ _ _ => rfl)
theorem adcDpInd (d : Byte) : Statement (.adcDpInd d) := of_byte rfl (fun _ _ _ => rfl)
theorem adcSrIndY (d : Byte) : Statement (.adcSrIndY d) := of_byte rfl (fun _ _ _ => rfl)
theorem stzDpX (d : Byte) : Statement (.stzDpX d) := of_byte rfl (fun _ _ _ => rfl)
theorem adcDpX (d : Byte) : Statement (.adcDpX d) := of_byte rfl (fun _ _ _ => rfl)
theorem rorDpX (d : Byte) : Statement (.rorDpX d) := of_byte rfl (fun _ _ _ => rfl)
theorem adcDpIndLongY (d : Byte) : Statement (.adcDpIndLongY d) := of_byte rfl (fun _ _ _ => rfl)
theorem sei : Statement .sei := of_opcode rfl (fun _ _ _ _ => rfl)
theorem adcAbsY (v : Word) : Statement (.adcAbsY v) := of_word v rfl (fun _ _ _ _ => rfl)
theorem ply : Statement .ply := of_opcode rfl (fun _ _ _ _ => rfl)
theorem tdc : Statement .tdc := of_opcode rfl (fun _ _ _ _ => rfl)
theorem jmpIndX (v : Word) : Statement (.jmpIndX v) := of_word v rfl (fun _ _ _ _ => rfl)
theorem adcAbsX (v : Word) : Statement (.adcAbsX v) := of_word v rfl (fun _ _ _ _ => rfl)
theorem rorAbsX (v : Word) : Statement (.rorAbsX v) := of_word v rfl (fun _ _ _ _ => rfl)
theorem adcLongX (v : Addr) : Statement (.adcLongX v) := of_long v rfl (fun _ _ _ _ => rfl)
theorem bra (rel : Byte) : Statement (.bra rel) := of_byte rfl (fun _ _ _ => rfl)
theorem staDpIndX (d : Byte) : Statement (.staDpIndX d) := of_byte rfl (fun _ _ _ => rfl)
theorem brl (v : Word) : Statement (.brl v) := of_word v rfl (fun _ _ _ _ => rfl)
theorem staSr (d : Byte) : Statement (.staSr d) := of_byte rfl (fun _ _ _ => rfl)
theorem styDp (d : Byte) : Statement (.styDp d) := of_byte rfl (fun _ _ _ => rfl)
theorem staDp (d : Byte) : Statement (.staDp d) := of_byte rfl (fun _ _ _ => rfl)
theorem stxDp (d : Byte) : Statement (.stxDp d) := of_byte rfl (fun _ _ _ => rfl)
theorem staDpIndLong (d : Byte) : Statement (.staDpIndLong d) := of_byte rfl (fun _ _ _ => rfl)
theorem dey : Statement .dey := of_opcode rfl (fun _ _ _ _ => rfl)
theorem bitImm (imm : Immediate) : Statement (.bitImm imm) :=
  of_immediate (eightBit := DecodeContext.m8) imm (fun _ => rfl) (fun _ => rfl) (fun _ _ _ _ => rfl)
theorem txa : Statement .txa := of_opcode rfl (fun _ _ _ _ => rfl)
theorem phb : Statement .phb := of_opcode rfl (fun _ _ _ _ => rfl)
theorem styAbs (v : Word) : Statement (.styAbs v) := of_word v rfl (fun _ _ _ _ => rfl)
theorem staAbs (v : Word) : Statement (.staAbs v) := of_word v rfl (fun _ _ _ _ => rfl)
theorem stxAbs (v : Word) : Statement (.stxAbs v) := of_word v rfl (fun _ _ _ _ => rfl)
theorem staLong (v : Addr) : Statement (.staLong v) := of_long v rfl (fun _ _ _ _ => rfl)
theorem bcc (rel : Byte) : Statement (.bcc rel) := of_byte rfl (fun _ _ _ => rfl)
theorem staDpIndY (d : Byte) : Statement (.staDpIndY d) := of_byte rfl (fun _ _ _ => rfl)
theorem staDpInd (d : Byte) : Statement (.staDpInd d) := of_byte rfl (fun _ _ _ => rfl)
theorem staSrIndY (d : Byte) : Statement (.staSrIndY d) := of_byte rfl (fun _ _ _ => rfl)
theorem styDpX (d : Byte) : Statement (.styDpX d) := of_byte rfl (fun _ _ _ => rfl)
theorem staDpX (d : Byte) : Statement (.staDpX d) := of_byte rfl (fun _ _ _ => rfl)
theorem stxDpY (d : Byte) : Statement (.stxDpY d) := of_byte rfl (fun _ _ _ => rfl)
theorem staDpIndLongY (d : Byte) : Statement (.staDpIndLongY d) := of_byte rfl (fun _ _ _ => rfl)
theorem tya : Statement .tya := of_opcode rfl (fun _ _ _ _ => rfl)
theorem staAbsY (v : Word) : Statement (.staAbsY v) := of_word v rfl (fun _ _ _ _ => rfl)
theorem txs : Statement .txs := of_opcode rfl (fun _ _ _ _ => rfl)
theorem txy : Statement .txy := of_opcode rfl (fun _ _ _ _ => rfl)
theorem stzAbs (v : Word) : Statement (.stzAbs v) := of_word v rfl (fun _ _ _ _ => rfl)
theorem staAbsX (v : Word) : Statement (.staAbsX v) := of_word v rfl (fun _ _ _ _ => rfl)
theorem stzAbsX (v : Word) : Statement (.stzAbsX v) := of_word v rfl (fun _ _ _ _ => rfl)
theorem staLongX (v : Addr) : Statement (.staLongX v) := of_long v rfl (fun _ _ _ _ => rfl)
theorem ldyImm (imm : Immediate) : Statement (.ldyImm imm) :=
  of_immediate (eightBit := DecodeContext.x8) imm (fun _ => rfl) (fun _ => rfl) (fun _ _ _ _ => rfl)
theorem ldaDpIndX (d : Byte) : Statement (.ldaDpIndX d) := of_byte rfl (fun _ _ _ => rfl)
theorem ldxImm (imm : Immediate) : Statement (.ldxImm imm) :=
  of_immediate (eightBit := DecodeContext.x8) imm (fun _ => rfl) (fun _ => rfl) (fun _ _ _ _ => rfl)
theorem ldaSr (d : Byte) : Statement (.ldaSr d) := of_byte rfl (fun _ _ _ => rfl)
theorem ldyDp (d : Byte) : Statement (.ldyDp d) := of_byte rfl (fun _ _ _ => rfl)
theorem ldaDp (d : Byte) : Statement (.ldaDp d) := of_byte rfl (fun _ _ _ => rfl)
theorem ldxDp (d : Byte) : Statement (.ldxDp d) := of_byte rfl (fun _ _ _ => rfl)
theorem ldaDpIndLong (d : Byte) : Statement (.ldaDpIndLong d) := of_byte rfl (fun _ _ _ => rfl)
theorem tay : Statement .tay := of_opcode rfl (fun _ _ _ _ => rfl)
theorem ldaImm (imm : Immediate) : Statement (.ldaImm imm) :=
  of_immediate (eightBit := DecodeContext.m8) imm (fun _ => rfl) (fun _ => rfl) (fun _ _ _ _ => rfl)
theorem tax : Statement .tax := of_opcode rfl (fun _ _ _ _ => rfl)
theorem plb : Statement .plb := of_opcode rfl (fun _ _ _ _ => rfl)
theorem ldyAbs (v : Word) : Statement (.ldyAbs v) := of_word v rfl (fun _ _ _ _ => rfl)
theorem ldaAbs (v : Word) : Statement (.ldaAbs v) := of_word v rfl (fun _ _ _ _ => rfl)
theorem ldxAbs (v : Word) : Statement (.ldxAbs v) := of_word v rfl (fun _ _ _ _ => rfl)
theorem ldaLong (v : Addr) : Statement (.ldaLong v) := of_long v rfl (fun _ _ _ _ => rfl)
theorem bcs (rel : Byte) : Statement (.bcs rel) := of_byte rfl (fun _ _ _ => rfl)
theorem ldaDpIndY (d : Byte) : Statement (.ldaDpIndY d) := of_byte rfl (fun _ _ _ => rfl)
theorem ldaDpInd (d : Byte) : Statement (.ldaDpInd d) := of_byte rfl (fun _ _ _ => rfl)
theorem ldaSrIndY (d : Byte) : Statement (.ldaSrIndY d) := of_byte rfl (fun _ _ _ => rfl)
theorem ldyDpX (d : Byte) : Statement (.ldyDpX d) := of_byte rfl (fun _ _ _ => rfl)
theorem ldaDpX (d : Byte) : Statement (.ldaDpX d) := of_byte rfl (fun _ _ _ => rfl)
theorem ldxDpY (d : Byte) : Statement (.ldxDpY d) := of_byte rfl (fun _ _ _ => rfl)
theorem ldaDpIndLongY (d : Byte) : Statement (.ldaDpIndLongY d) := of_byte rfl (fun _ _ _ => rfl)
theorem clv : Statement .clv := of_opcode rfl (fun _ _ _ _ => rfl)
theorem ldaAbsY (v : Word) : Statement (.ldaAbsY v) := of_word v rfl (fun _ _ _ _ => rfl)
theorem tsx : Statement .tsx := of_opcode rfl (fun _ _ _ _ => rfl)
theorem tyx : Statement .tyx := of_opcode rfl (fun _ _ _ _ => rfl)
theorem ldyAbsX (v : Word) : Statement (.ldyAbsX v) := of_word v rfl (fun _ _ _ _ => rfl)
theorem ldaAbsX (v : Word) : Statement (.ldaAbsX v) := of_word v rfl (fun _ _ _ _ => rfl)
theorem ldxAbsY (v : Word) : Statement (.ldxAbsY v) := of_word v rfl (fun _ _ _ _ => rfl)
theorem ldaLongX (v : Addr) : Statement (.ldaLongX v) := of_long v rfl (fun _ _ _ _ => rfl)
theorem cpyImm (imm : Immediate) : Statement (.cpyImm imm) :=
  of_immediate (eightBit := DecodeContext.x8) imm (fun _ => rfl) (fun _ => rfl) (fun _ _ _ _ => rfl)
theorem cmpDpIndX (d : Byte) : Statement (.cmpDpIndX d) := of_byte rfl (fun _ _ _ => rfl)
theorem rep (imm : Byte) : Statement (.rep imm) := of_byte rfl (fun _ _ _ => rfl)
theorem cmpSr (d : Byte) : Statement (.cmpSr d) := of_byte rfl (fun _ _ _ => rfl)
theorem cpyDp (d : Byte) : Statement (.cpyDp d) := of_byte rfl (fun _ _ _ => rfl)
theorem cmpDp (d : Byte) : Statement (.cmpDp d) := of_byte rfl (fun _ _ _ => rfl)
theorem decDp (d : Byte) : Statement (.decDp d) := of_byte rfl (fun _ _ _ => rfl)
theorem cmpDpIndLong (d : Byte) : Statement (.cmpDpIndLong d) := of_byte rfl (fun _ _ _ => rfl)
theorem iny : Statement .iny := of_opcode rfl (fun _ _ _ _ => rfl)
theorem cmpImm (imm : Immediate) : Statement (.cmpImm imm) :=
  of_immediate (eightBit := DecodeContext.m8) imm (fun _ => rfl) (fun _ => rfl) (fun _ _ _ _ => rfl)
theorem dex : Statement .dex := of_opcode rfl (fun _ _ _ _ => rfl)
theorem wai : Statement .wai := of_opcode rfl (fun _ _ _ _ => rfl)
theorem cpyAbs (v : Word) : Statement (.cpyAbs v) := of_word v rfl (fun _ _ _ _ => rfl)
theorem cmpAbs (v : Word) : Statement (.cmpAbs v) := of_word v rfl (fun _ _ _ _ => rfl)
theorem decAbs (v : Word) : Statement (.decAbs v) := of_word v rfl (fun _ _ _ _ => rfl)
theorem cmpLong (v : Addr) : Statement (.cmpLong v) := of_long v rfl (fun _ _ _ _ => rfl)
theorem bne (rel : Byte) : Statement (.bne rel) := of_byte rfl (fun _ _ _ => rfl)
theorem cmpDpIndY (d : Byte) : Statement (.cmpDpIndY d) := of_byte rfl (fun _ _ _ => rfl)
theorem cmpDpInd (d : Byte) : Statement (.cmpDpInd d) := of_byte rfl (fun _ _ _ => rfl)
theorem cmpSrIndY (d : Byte) : Statement (.cmpSrIndY d) := of_byte rfl (fun _ _ _ => rfl)
theorem pei (d : Byte) : Statement (.pei d) := of_byte rfl (fun _ _ _ => rfl)
theorem cmpDpX (d : Byte) : Statement (.cmpDpX d) := of_byte rfl (fun _ _ _ => rfl)
theorem decDpX (d : Byte) : Statement (.decDpX d) := of_byte rfl (fun _ _ _ => rfl)
theorem cmpDpIndLongY (d : Byte) : Statement (.cmpDpIndLongY d) := of_byte rfl (fun _ _ _ => rfl)
theorem cld : Statement .cld := of_opcode rfl (fun _ _ _ _ => rfl)
theorem cmpAbsY (v : Word) : Statement (.cmpAbsY v) := of_word v rfl (fun _ _ _ _ => rfl)
theorem phx : Statement .phx := of_opcode rfl (fun _ _ _ _ => rfl)
theorem stp : Statement .stp := of_opcode rfl (fun _ _ _ _ => rfl)
theorem jmlIndLong (v : Word) : Statement (.jmlIndLong v) := of_word v rfl (fun _ _ _ _ => rfl)
theorem cmpAbsX (v : Word) : Statement (.cmpAbsX v) := of_word v rfl (fun _ _ _ _ => rfl)
theorem decAbsX (v : Word) : Statement (.decAbsX v) := of_word v rfl (fun _ _ _ _ => rfl)
theorem cmpLongX (v : Addr) : Statement (.cmpLongX v) := of_long v rfl (fun _ _ _ _ => rfl)
theorem cpxImm (imm : Immediate) : Statement (.cpxImm imm) :=
  of_immediate (eightBit := DecodeContext.x8) imm (fun _ => rfl) (fun _ => rfl) (fun _ _ _ _ => rfl)
theorem sbcDpIndX (d : Byte) : Statement (.sbcDpIndX d) := of_byte rfl (fun _ _ _ => rfl)
theorem sep (imm : Byte) : Statement (.sep imm) := of_byte rfl (fun _ _ _ => rfl)
theorem sbcSr (d : Byte) : Statement (.sbcSr d) := of_byte rfl (fun _ _ _ => rfl)
theorem cpxDp (d : Byte) : Statement (.cpxDp d) := of_byte rfl (fun _ _ _ => rfl)
theorem sbcDp (d : Byte) : Statement (.sbcDp d) := of_byte rfl (fun _ _ _ => rfl)
theorem incDp (d : Byte) : Statement (.incDp d) := of_byte rfl (fun _ _ _ => rfl)
theorem sbcDpIndLong (d : Byte) : Statement (.sbcDpIndLong d) := of_byte rfl (fun _ _ _ => rfl)
theorem inx : Statement .inx := of_opcode rfl (fun _ _ _ _ => rfl)
theorem sbcImm (imm : Immediate) : Statement (.sbcImm imm) :=
  of_immediate (eightBit := DecodeContext.m8) imm (fun _ => rfl) (fun _ => rfl) (fun _ _ _ _ => rfl)
theorem nop : Statement .nop := of_opcode rfl (fun _ _ _ _ => rfl)
theorem xba : Statement .xba := of_opcode rfl (fun _ _ _ _ => rfl)
theorem cpxAbs (v : Word) : Statement (.cpxAbs v) := of_word v rfl (fun _ _ _ _ => rfl)
theorem sbcAbs (v : Word) : Statement (.sbcAbs v) := of_word v rfl (fun _ _ _ _ => rfl)
theorem incAbs (v : Word) : Statement (.incAbs v) := of_word v rfl (fun _ _ _ _ => rfl)
theorem sbcLong (v : Addr) : Statement (.sbcLong v) := of_long v rfl (fun _ _ _ _ => rfl)
theorem beq (rel : Byte) : Statement (.beq rel) := of_byte rfl (fun _ _ _ => rfl)
theorem sbcDpIndY (d : Byte) : Statement (.sbcDpIndY d) := of_byte rfl (fun _ _ _ => rfl)
theorem sbcDpInd (d : Byte) : Statement (.sbcDpInd d) := of_byte rfl (fun _ _ _ => rfl)
theorem sbcSrIndY (d : Byte) : Statement (.sbcSrIndY d) := of_byte rfl (fun _ _ _ => rfl)
theorem pea (v : Word) : Statement (.pea v) := of_word v rfl (fun _ _ _ _ => rfl)
theorem sbcDpX (d : Byte) : Statement (.sbcDpX d) := of_byte rfl (fun _ _ _ => rfl)
theorem incDpX (d : Byte) : Statement (.incDpX d) := of_byte rfl (fun _ _ _ => rfl)
theorem sbcDpIndLongY (d : Byte) : Statement (.sbcDpIndLongY d) := of_byte rfl (fun _ _ _ => rfl)
theorem sed : Statement .sed := of_opcode rfl (fun _ _ _ _ => rfl)
theorem sbcAbsY (v : Word) : Statement (.sbcAbsY v) := of_word v rfl (fun _ _ _ _ => rfl)
theorem plx : Statement .plx := of_opcode rfl (fun _ _ _ _ => rfl)
theorem xce : Statement .xce := of_opcode rfl (fun _ _ _ _ => rfl)
theorem jsrIndX (v : Word) : Statement (.jsrIndX v) := of_word v rfl (fun _ _ _ _ => rfl)
theorem sbcAbsX (v : Word) : Statement (.sbcAbsX v) := of_word v rfl (fun _ _ _ _ => rfl)
theorem incAbsX (v : Word) : Statement (.incAbsX v) := of_word v rfl (fun _ _ _ _ => rfl)
theorem sbcLongX (v : Addr) : Statement (.sbcLongX v) := of_long v rfl (fun _ _ _ _ => rfl)

end DecodesOwnBytes

end Sys2Proof.Laws
end

