-- ==== Sys2Proof/Tests/Slice0.lean ====
section
/-! SUPPORT. The model's own tests: ill-formed terms are refused, each opcode byte of R95 decodes to its instruction,
one step of each instruction on a worked vector of `95_test_vectors.md`, and a witness for the hypotheses of each
statement. -/

namespace Sys2Proof.Tests

open Sys2Proof.Machine Sys2Proof.Claims

/-! Well-formedness: an immediate of the wrong width, and `$42` with the wrong operand, are refused (R93, R347). -/

theorem test_illformed_imm_m_byte : (Instr.adcImm (.byte 1)).wellFormed ⟨false, true, false⟩ = false := by decide
theorem test_illformed_imm_m_word : (Instr.adcImm (.word 1)).wellFormed ⟨true, false, false⟩ = false := by decide
theorem test_illformed_imm_x_byte : (Instr.ldxImm (.byte 1)).wellFormed ⟨true, false, false⟩ = false := by decide
theorem test_illformed_imm_x_word : (Instr.ldxImm (.word 1)).wellFormed ⟨false, true, false⟩ = false := by decide
theorem test_illformed_all_imm_m :
    [Instr.oraImm, .andImm, .eorImm, .adcImm, .bitImm, .ldaImm, .cmpImm, .sbcImm].all
      (fun mk => !(mk (.byte 1)).wellFormed ⟨false, true, false⟩ && !(mk (.word 1)).wellFormed ⟨true, false, false⟩) := by
  decide
theorem test_illformed_all_imm_x :
    [Instr.ldyImm, .ldxImm, .cpyImm, .cpxImm].all
      (fun mk => !(mk (.byte 1)).wellFormed ⟨true, false, false⟩ && !(mk (.word 1)).wellFormed ⟨false, true, false⟩) := by
  decide
theorem test_illformed_wdm_operand_outside_k : (Instr.wdm (some 0)).wellFormed ⟨true, true, false⟩ = false := by decide
theorem test_illformed_wdm_bare_in_k : (Instr.wdm none).wellFormed ⟨true, true, true⟩ = false := by decide

/-! Decoding: the words of R95's table, sixteen opcodes a row, written from its mnemonics and formats, with the
operand bytes `34`, `34 12`, `34 12 7E` (low byte first, R92) or `7F 12` (destination bank first, R147), in 8-bit
widths. -/

/-- The bytes are exactly one instruction, this one. -/
def decodesTo (word : List Byte × Instr) : Bool :=
  match decode resetContext word.1 with
  | .ok (i, rest) => i == word.2 && rest == []
  | .error _ => false

theorem test_decode_row_0 : [
    ([0x00, 0x34], .brk 0x34),
    ([0x01, 0x34], .oraDpIndX 0x34),
    ([0x02, 0x34], .cop 0x34),
    ([0x03, 0x34], .oraSr 0x34),
    ([0x04, 0x34], .tsbDp 0x34),
    ([0x05, 0x34], .oraDp 0x34),
    ([0x06, 0x34], .aslDp 0x34),
    ([0x07, 0x34], .oraDpIndLong 0x34),
    ([0x08], .php),
    ([0x09, 0x34], .oraImm (.byte 0x34)),
    ([0x0A], .aslAcc),
    ([0x0B], .phd),
    ([0x0C, 0x34, 0x12], .tsbAbs 0x1234),
    ([0x0D, 0x34, 0x12], .oraAbs 0x1234),
    ([0x0E, 0x34, 0x12], .aslAbs 0x1234),
    ([0x0F, 0x34, 0x12, 0x7E], .oraLong 0x7E1234)
  ].all decodesTo = true := by decide

theorem test_decode_row_1 : [
    ([0x10, 0x34], .bpl 0x34),
    ([0x11, 0x34], .oraDpIndY 0x34),
    ([0x12, 0x34], .oraDpInd 0x34),
    ([0x13, 0x34], .oraSrIndY 0x34),
    ([0x14, 0x34], .trbDp 0x34),
    ([0x15, 0x34], .oraDpX 0x34),
    ([0x16, 0x34], .aslDpX 0x34),
    ([0x17, 0x34], .oraDpIndLongY 0x34),
    ([0x18], .clc),
    ([0x19, 0x34, 0x12], .oraAbsY 0x1234),
    ([0x1A], .incAcc),
    ([0x1B], .tcs),
    ([0x1C, 0x34, 0x12], .trbAbs 0x1234),
    ([0x1D, 0x34, 0x12], .oraAbsX 0x1234),
    ([0x1E, 0x34, 0x12], .aslAbsX 0x1234),
    ([0x1F, 0x34, 0x12, 0x7E], .oraLongX 0x7E1234)
  ].all decodesTo = true := by decide

theorem test_decode_row_2 : [
    ([0x20, 0x34, 0x12], .jsrAbs 0x1234),
    ([0x21, 0x34], .andDpIndX 0x34),
    ([0x22, 0x34, 0x12, 0x7E], .jsl 0x7E1234),
    ([0x23, 0x34], .andSr 0x34),
    ([0x24, 0x34], .bitDp 0x34),
    ([0x25, 0x34], .andDp 0x34),
    ([0x26, 0x34], .rolDp 0x34),
    ([0x27, 0x34], .andDpIndLong 0x34),
    ([0x28], .plp),
    ([0x29, 0x34], .andImm (.byte 0x34)),
    ([0x2A], .rolAcc),
    ([0x2B], .pld),
    ([0x2C, 0x34, 0x12], .bitAbs 0x1234),
    ([0x2D, 0x34, 0x12], .andAbs 0x1234),
    ([0x2E, 0x34, 0x12], .rolAbs 0x1234),
    ([0x2F, 0x34, 0x12, 0x7E], .andLong 0x7E1234)
  ].all decodesTo = true := by decide

theorem test_decode_row_3 : [
    ([0x30, 0x34], .bmi 0x34),
    ([0x31, 0x34], .andDpIndY 0x34),
    ([0x32, 0x34], .andDpInd 0x34),
    ([0x33, 0x34], .andSrIndY 0x34),
    ([0x34, 0x34], .bitDpX 0x34),
    ([0x35, 0x34], .andDpX 0x34),
    ([0x36, 0x34], .rolDpX 0x34),
    ([0x37, 0x34], .andDpIndLongY 0x34),
    ([0x38], .sec),
    ([0x39, 0x34, 0x12], .andAbsY 0x1234),
    ([0x3A], .decAcc),
    ([0x3B], .tsc),
    ([0x3C, 0x34, 0x12], .bitAbsX 0x1234),
    ([0x3D, 0x34, 0x12], .andAbsX 0x1234),
    ([0x3E, 0x34, 0x12], .rolAbsX 0x1234),
    ([0x3F, 0x34, 0x12, 0x7E], .andLongX 0x7E1234)
  ].all decodesTo = true := by decide

theorem test_decode_row_4 : [
    ([0x40], .rti),
    ([0x41, 0x34], .eorDpIndX 0x34),
    ([0x42], .wdm none),
    ([0x43, 0x34], .eorSr 0x34),
    ([0x44, 0x7F, 0x12], .mvp 0x7F 0x12),
    ([0x45, 0x34], .eorDp 0x34),
    ([0x46, 0x34], .lsrDp 0x34),
    ([0x47, 0x34], .eorDpIndLong 0x34),
    ([0x48], .pha),
    ([0x49, 0x34], .eorImm (.byte 0x34)),
    ([0x4A], .lsrAcc),
    ([0x4B], .phk),
    ([0x4C, 0x34, 0x12], .jmpAbs 0x1234),
    ([0x4D, 0x34, 0x12], .eorAbs 0x1234),
    ([0x4E, 0x34, 0x12], .lsrAbs 0x1234),
    ([0x4F, 0x34, 0x12, 0x7E], .eorLong 0x7E1234)
  ].all decodesTo = true := by decide

theorem test_decode_row_5 : [
    ([0x50, 0x34], .bvc 0x34),
    ([0x51, 0x34], .eorDpIndY 0x34),
    ([0x52, 0x34], .eorDpInd 0x34),
    ([0x53, 0x34], .eorSrIndY 0x34),
    ([0x54, 0x7F, 0x12], .mvn 0x7F 0x12),
    ([0x55, 0x34], .eorDpX 0x34),
    ([0x56, 0x34], .lsrDpX 0x34),
    ([0x57, 0x34], .eorDpIndLongY 0x34),
    ([0x58], .cli),
    ([0x59, 0x34, 0x12], .eorAbsY 0x1234),
    ([0x5A], .phy),
    ([0x5B], .tcd),
    ([0x5C, 0x34, 0x12, 0x7E], .jmlLong 0x7E1234),
    ([0x5D, 0x34, 0x12], .eorAbsX 0x1234),
    ([0x5E, 0x34, 0x12], .lsrAbsX 0x1234),
    ([0x5F, 0x34, 0x12, 0x7E], .eorLongX 0x7E1234)
  ].all decodesTo = true := by decide

theorem test_decode_row_6 : [
    ([0x60], .rts),
    ([0x61, 0x34], .adcDpIndX 0x34),
    ([0x62, 0x34, 0x12], .per 0x1234),
    ([0x63, 0x34], .adcSr 0x34),
    ([0x64, 0x34], .stzDp 0x34),
    ([0x65, 0x34], .adcDp 0x34),
    ([0x66, 0x34], .rorDp 0x34),
    ([0x67, 0x34], .adcDpIndLong 0x34),
    ([0x68], .pla),
    ([0x69, 0x34], .adcImm (.byte 0x34)),
    ([0x6A], .rorAcc),
    ([0x6B], .rtl),
    ([0x6C, 0x34, 0x12], .jmpInd 0x1234),
    ([0x6D, 0x34, 0x12], .adcAbs 0x1234),
    ([0x6E, 0x34, 0x12], .rorAbs 0x1234),
    ([0x6F, 0x34, 0x12, 0x7E], .adcLong 0x7E1234)
  ].all decodesTo = true := by decide

theorem test_decode_row_7 : [
    ([0x70, 0x34], .bvs 0x34),
    ([0x71, 0x34], .adcDpIndY 0x34),
    ([0x72, 0x34], .adcDpInd 0x34),
    ([0x73, 0x34], .adcSrIndY 0x34),
    ([0x74, 0x34], .stzDpX 0x34),
    ([0x75, 0x34], .adcDpX 0x34),
    ([0x76, 0x34], .rorDpX 0x34),
    ([0x77, 0x34], .adcDpIndLongY 0x34),
    ([0x78], .sei),
    ([0x79, 0x34, 0x12], .adcAbsY 0x1234),
    ([0x7A], .ply),
    ([0x7B], .tdc),
    ([0x7C, 0x34, 0x12], .jmpIndX 0x1234),
    ([0x7D, 0x34, 0x12], .adcAbsX 0x1234),
    ([0x7E, 0x34, 0x12], .rorAbsX 0x1234),
    ([0x7F, 0x34, 0x12, 0x7E], .adcLongX 0x7E1234)
  ].all decodesTo = true := by decide

theorem test_decode_row_8 : [
    ([0x80, 0x34], .bra 0x34),
    ([0x81, 0x34], .staDpIndX 0x34),
    ([0x82, 0x34, 0x12], .brl 0x1234),
    ([0x83, 0x34], .staSr 0x34),
    ([0x84, 0x34], .styDp 0x34),
    ([0x85, 0x34], .staDp 0x34),
    ([0x86, 0x34], .stxDp 0x34),
    ([0x87, 0x34], .staDpIndLong 0x34),
    ([0x88], .dey),
    ([0x89, 0x34], .bitImm (.byte 0x34)),
    ([0x8A], .txa),
    ([0x8B], .phb),
    ([0x8C, 0x34, 0x12], .styAbs 0x1234),
    ([0x8D, 0x34, 0x12], .staAbs 0x1234),
    ([0x8E, 0x34, 0x12], .stxAbs 0x1234),
    ([0x8F, 0x34, 0x12, 0x7E], .staLong 0x7E1234)
  ].all decodesTo = true := by decide

theorem test_decode_row_9 : [
    ([0x90, 0x34], .bcc 0x34),
    ([0x91, 0x34], .staDpIndY 0x34),
    ([0x92, 0x34], .staDpInd 0x34),
    ([0x93, 0x34], .staSrIndY 0x34),
    ([0x94, 0x34], .styDpX 0x34),
    ([0x95, 0x34], .staDpX 0x34),
    ([0x96, 0x34], .stxDpY 0x34),
    ([0x97, 0x34], .staDpIndLongY 0x34),
    ([0x98], .tya),
    ([0x99, 0x34, 0x12], .staAbsY 0x1234),
    ([0x9A], .txs),
    ([0x9B], .txy),
    ([0x9C, 0x34, 0x12], .stzAbs 0x1234),
    ([0x9D, 0x34, 0x12], .staAbsX 0x1234),
    ([0x9E, 0x34, 0x12], .stzAbsX 0x1234),
    ([0x9F, 0x34, 0x12, 0x7E], .staLongX 0x7E1234)
  ].all decodesTo = true := by decide

theorem test_decode_row_A : [
    ([0xA0, 0x34], .ldyImm (.byte 0x34)),
    ([0xA1, 0x34], .ldaDpIndX 0x34),
    ([0xA2, 0x34], .ldxImm (.byte 0x34)),
    ([0xA3, 0x34], .ldaSr 0x34),
    ([0xA4, 0x34], .ldyDp 0x34),
    ([0xA5, 0x34], .ldaDp 0x34),
    ([0xA6, 0x34], .ldxDp 0x34),
    ([0xA7, 0x34], .ldaDpIndLong 0x34),
    ([0xA8], .tay),
    ([0xA9, 0x34], .ldaImm (.byte 0x34)),
    ([0xAA], .tax),
    ([0xAB], .plb),
    ([0xAC, 0x34, 0x12], .ldyAbs 0x1234),
    ([0xAD, 0x34, 0x12], .ldaAbs 0x1234),
    ([0xAE, 0x34, 0x12], .ldxAbs 0x1234),
    ([0xAF, 0x34, 0x12, 0x7E], .ldaLong 0x7E1234)
  ].all decodesTo = true := by decide

theorem test_decode_row_B : [
    ([0xB0, 0x34], .bcs 0x34),
    ([0xB1, 0x34], .ldaDpIndY 0x34),
    ([0xB2, 0x34], .ldaDpInd 0x34),
    ([0xB3, 0x34], .ldaSrIndY 0x34),
    ([0xB4, 0x34], .ldyDpX 0x34),
    ([0xB5, 0x34], .ldaDpX 0x34),
    ([0xB6, 0x34], .ldxDpY 0x34),
    ([0xB7, 0x34], .ldaDpIndLongY 0x34),
    ([0xB8], .clv),
    ([0xB9, 0x34, 0x12], .ldaAbsY 0x1234),
    ([0xBA], .tsx),
    ([0xBB], .tyx),
    ([0xBC, 0x34, 0x12], .ldyAbsX 0x1234),
    ([0xBD, 0x34, 0x12], .ldaAbsX 0x1234),
    ([0xBE, 0x34, 0x12], .ldxAbsY 0x1234),
    ([0xBF, 0x34, 0x12, 0x7E], .ldaLongX 0x7E1234)
  ].all decodesTo = true := by decide

theorem test_decode_row_C : [
    ([0xC0, 0x34], .cpyImm (.byte 0x34)),
    ([0xC1, 0x34], .cmpDpIndX 0x34),
    ([0xC2, 0x34], .rep 0x34),
    ([0xC3, 0x34], .cmpSr 0x34),
    ([0xC4, 0x34], .cpyDp 0x34),
    ([0xC5, 0x34], .cmpDp 0x34),
    ([0xC6, 0x34], .decDp 0x34),
    ([0xC7, 0x34], .cmpDpIndLong 0x34),
    ([0xC8], .iny),
    ([0xC9, 0x34], .cmpImm (.byte 0x34)),
    ([0xCA], .dex),
    ([0xCB], .wai),
    ([0xCC, 0x34, 0x12], .cpyAbs 0x1234),
    ([0xCD, 0x34, 0x12], .cmpAbs 0x1234),
    ([0xCE, 0x34, 0x12], .decAbs 0x1234),
    ([0xCF, 0x34, 0x12, 0x7E], .cmpLong 0x7E1234)
  ].all decodesTo = true := by decide

theorem test_decode_row_D : [
    ([0xD0, 0x34], .bne 0x34),
    ([0xD1, 0x34], .cmpDpIndY 0x34),
    ([0xD2, 0x34], .cmpDpInd 0x34),
    ([0xD3, 0x34], .cmpSrIndY 0x34),
    ([0xD4, 0x34], .pei 0x34),
    ([0xD5, 0x34], .cmpDpX 0x34),
    ([0xD6, 0x34], .decDpX 0x34),
    ([0xD7, 0x34], .cmpDpIndLongY 0x34),
    ([0xD8], .cld),
    ([0xD9, 0x34, 0x12], .cmpAbsY 0x1234),
    ([0xDA], .phx),
    ([0xDB], .stp),
    ([0xDC, 0x34, 0x12], .jmlIndLong 0x1234),
    ([0xDD, 0x34, 0x12], .cmpAbsX 0x1234),
    ([0xDE, 0x34, 0x12], .decAbsX 0x1234),
    ([0xDF, 0x34, 0x12, 0x7E], .cmpLongX 0x7E1234)
  ].all decodesTo = true := by decide

theorem test_decode_row_E : [
    ([0xE0, 0x34], .cpxImm (.byte 0x34)),
    ([0xE1, 0x34], .sbcDpIndX 0x34),
    ([0xE2, 0x34], .sep 0x34),
    ([0xE3, 0x34], .sbcSr 0x34),
    ([0xE4, 0x34], .cpxDp 0x34),
    ([0xE5, 0x34], .sbcDp 0x34),
    ([0xE6, 0x34], .incDp 0x34),
    ([0xE7, 0x34], .sbcDpIndLong 0x34),
    ([0xE8], .inx),
    ([0xE9, 0x34], .sbcImm (.byte 0x34)),
    ([0xEA], .nop),
    ([0xEB], .xba),
    ([0xEC, 0x34, 0x12], .cpxAbs 0x1234),
    ([0xED, 0x34, 0x12], .sbcAbs 0x1234),
    ([0xEE, 0x34, 0x12], .incAbs 0x1234),
    ([0xEF, 0x34, 0x12, 0x7E], .sbcLong 0x7E1234)
  ].all decodesTo = true := by decide

theorem test_decode_row_F : [
    ([0xF0, 0x34], .beq 0x34),
    ([0xF1, 0x34], .sbcDpIndY 0x34),
    ([0xF2, 0x34], .sbcDpInd 0x34),
    ([0xF3, 0x34], .sbcSrIndY 0x34),
    ([0xF4, 0x34, 0x12], .pea 0x1234),
    ([0xF5, 0x34], .sbcDpX 0x34),
    ([0xF6, 0x34], .incDpX 0x34),
    ([0xF7, 0x34], .sbcDpIndLongY 0x34),
    ([0xF8], .sed),
    ([0xF9, 0x34, 0x12], .sbcAbsY 0x1234),
    ([0xFA], .plx),
    ([0xFB], .xce),
    ([0xFC, 0x34, 0x12], .jsrIndX 0x1234),
    ([0xFD, 0x34, 0x12], .sbcAbsX 0x1234),
    ([0xFE, 0x34, 0x12], .incAbsX 0x1234),
    ([0xFF, 0x34, 0x12, 0x7E], .sbcLongX 0x7E1234)
  ].all decodesTo = true := by decide

theorem test_decode_imm_m_word : decode ⟨false, true, false⟩ [0xA9, 0x34, 0x12] = .ok (.ldaImm (.word 0x1234), []) := rfl
theorem test_decode_imm_x_word : decode ⟨true, false, false⟩ [0xE0, 0x34, 0x12] = .ok (.cpxImm (.word 0x1234), []) := rfl
theorem test_decode_wdm_in_k : decode ⟨true, true, true⟩ [0x42, 0xEA] = .ok (.wdm (some 0xEA), []) := rfl
theorem test_decode_truncated : decode resetContext [0xAF, 0x34, 0x12] = .error (.truncated 0xAF) := rfl
theorem test_decode_empty : decode resetContext [] = .error .empty := rfl
theorem test_encode_mvn : encode (.mvn 0x7F 0x7E) = [0x54, 0x7F, 0x7E] := rfl
theorem test_encode_lda_long : encode (.ldaLong 0x123456) = [0xAF, 0x56, 0x34, 0x12] := rfl

/-! One step of each instruction: the vectors of `95_test_vectors.md` section 2, named by their numbers there. -/

/-- Bytes placed at a flat address. -/
def placed (a : Addr) (bytes : List Byte) (s : State) : State := { s with mem := memPutBytes s.mem a bytes }

/-- The state before a vector, its instruction at `PB:PC` (the conventions of `95_test_vectors.md`). -/
def coded (bytes : List Byte) (s : State) : State := { s with mem := memPutInBank s.mem s.pb s.pc bytes }

/-- The registers that a vector of `95_test_vectors.md` leaves out. -/
def start : State := { State.reset with e := false, p := 0, pc := 0x8000 }

/-- The step answers a next state of which this holds. -/
def after (s : State) (holds : State → Bool) : Bool :=
  match step s with
  | .next t => holds t
  | .fault _ => false
  | .refused _ => false

theorem test_adc_2_1_1 :
    after ({ start with e := true, p := 0x30, c := 0x007F } |> coded [0x69, 0x01])
      (fun t => t.c == 0x0080 && t.pc == 0x8002 && t.p == 0xF0) := by decide
theorem test_adc_2_1_4 :
    after ({ start with p := 0x00, c := 0x7FFF } |> coded [0x69, 0x01, 0x00])
      (fun t => t.c == 0x8000 && t.pc == 0x8003 && t.p == 0xC0) := by decide
theorem test_sbc_2_1_7 :
    after ({ start with e := true, p := 0x31, c := 0x0000 } |> coded [0xE9, 0x01])
      (fun t => t.c == 0x00FF && t.pc == 0x8002 && t.p == 0xB0) := by decide
theorem test_sbc_2_1_11 :
    after ({ start with p := 0x01, c := 0x8000 } |> coded [0xE9, 0x01, 0x00])
      (fun t => t.c == 0x7FFF && t.pc == 0x8003 && t.p == 0x41) := by decide
theorem test_and_2_3_1 :
    after ({ start with e := true, p := 0x30, c := 0xABF0 } |> coded [0x29, 0x0F])
      (fun t => t.c == 0xAB00 && t.pc == 0x8002 && t.p == 0x32) := by decide
theorem test_ora_2_3_2 :
    after ({ start with e := true, p := 0x30, c := 0x0001 } |> coded [0x09, 0x80])
      (fun t => t.c == 0x0081 && t.pc == 0x8002 && t.p == 0xB0) := by decide
theorem test_eor_2_3_3 :
    after ({ start with p := 0x00, c := 0x00FF } |> coded [0x49, 0xFF, 0xFF])
      (fun t => t.c == 0xFF00 && t.pc == 0x8003 && t.p == 0x80) := by decide
theorem test_cmp_2_3_5 :
    after ({ start with e := true, p := 0x70, c := 0x0010 } |> coded [0xC9, 0x10])
      (fun t => t.pc == 0x8002 && t.p == 0x73) := by decide
theorem test_cpx_2_3_9 :
    after ({ start with p := 0x20, x := 0x0100 } |> coded [0xE0, 0x00, 0x01])
      (fun t => t.pc == 0x8003 && t.p == 0x23) := by decide
theorem test_cpy_2_3_10 :
    after ({ start with p := 0x10, y := 0x0006 } |> coded [0xC0, 0x05])
      (fun t => t.pc == 0x8002 && t.p == 0x11) := by decide
theorem test_bit_2_3_11 :
    after ({ start with e := true, p := 0xF0, c := 0x0001 } |> coded [0x89, 0x80])
      (fun t => t.pc == 0x8002 && t.p == 0xF2) := by decide
theorem test_bit_2_3_13 :
    after ({ start with p := 0x00, c := 0x4000, db := 0x7E }
      |> coded [0x2C, 0x00, 0x20] |> placed 0x7E2000 [0x00, 0x40])
      (fun t => t.pc == 0x8003 && t.p == 0x40) := by decide
theorem test_asl_2_4_1 :
    after ({ start with e := true, p := 0x30, c := 0x1281 } |> coded [0x0A])
      (fun t => t.c == 0x1202 && t.pc == 0x8001 && t.p == 0x31) := by decide
theorem test_asl_2_4_6 :
    after ({ start with e := true, p := 0x30 } |> coded [0x06, 0x10] |> placed 0x000010 [0xC0])
      (fun t => t.pc == 0x8002 && t.p == 0xB1 && memByte t.mem 0x000010 == 0x80) := by decide
theorem test_lsr_2_4_3 :
    after ({ start with e := true, p := 0xB0, c := 0x0001 } |> coded [0x4A])
      (fun t => t.c == 0x0000 && t.pc == 0x8001 && t.p == 0x33) := by decide
theorem test_rol_2_4_4 :
    after ({ start with e := true, p := 0x31, c := 0x0080 } |> coded [0x2A])
      (fun t => t.c == 0x0001 && t.pc == 0x8001 && t.p == 0x31) := by decide
theorem test_ror_2_4_5 :
    after ({ start with p := 0x01, c := 0x0001 } |> coded [0x6A])
      (fun t => t.c == 0x8000 && t.pc == 0x8001 && t.p == 0x81) := by decide
theorem test_ror_2_4_8 :
    after ({ start with p := 0x21, x := 0x0002, db := 0x7E } |> coded [0x7E, 0xFF, 0xFF] |> placed 0x7E0001 [0x02])
      (fun t => t.pc == 0x8003 && t.p == 0xA0 && memByte t.mem 0x7E0001 == 0x81) := by decide
theorem test_inc_2_4_9 :
    after ({ start with e := true, p := 0x30, c := 0x00FF } |> coded [0x1A])
      (fun t => t.c == 0x0000 && t.pc == 0x8001 && t.p == 0x32) := by decide
theorem test_inc_2_4_11 :
    after ({ start with e := true, p := 0x30, d := 0xFF01 } |> coded [0xE6, 0xFF] |> placed 0x000000 [0x7F])
      (fun t => t.pc == 0x8002 && t.p == 0xB0 && memByte t.mem 0x000000 == 0x80) := by decide
theorem test_dec_2_4_10 :
    after ({ start with p := 0x00, c := 0x0000 } |> coded [0x3A])
      (fun t => t.c == 0xFFFF && t.pc == 0x8001 && t.p == 0x80) := by decide
theorem test_dec_2_4_12 :
    after ({ start with e := true, p := 0x30 } |> coded [0xCE, 0x00, 0x10] |> placed 0x001000 [0x00])
      (fun t => t.pc == 0x8003 && t.p == 0xB0 && memByte t.mem 0x001000 == 0xFF) := by decide
theorem test_inx_2_4_13 :
    after ({ start with e := true, p := 0x30, x := 0x00FF } |> coded [0xE8])
      (fun t => t.x == 0x0000 && t.pc == 0x8001 && t.p == 0x32) := by decide
theorem test_iny_2_4_15 :
    after ({ start with p := 0x00, y := 0xFFFF } |> coded [0xC8])
      (fun t => t.y == 0x0000 && t.pc == 0x8001 && t.p == 0x02) := by decide
theorem test_dex_2_4_16 :
    after ({ start with p := 0x10, x := 0x0000 } |> coded [0xCA])
      (fun t => t.x == 0x00FF && t.pc == 0x8001 && t.p == 0x90) := by decide
theorem test_dey_2_4_17 :
    after ({ start with p := 0x00, y := 0x0001 } |> coded [0x88])
      (fun t => t.y == 0x0000 && t.pc == 0x8001 && t.p == 0x02) := by decide
theorem test_tsb_2_4_18 :
    after ({ start with e := true, p := 0x30, c := 0x000F } |> coded [0x04, 0x20] |> placed 0x000020 [0xF0])
      (fun t => t.pc == 0x8002 && t.p == 0x32 && memByte t.mem 0x000020 == 0xFF) := by decide
theorem test_trb_2_4_19 :
    after ({ start with p := 0x00, c := 0x00FF, db := 0x01 }
      |> coded [0x1C, 0x00, 0x20] |> placed 0x012000 [0x0F, 0xFF])
      (fun t => t.pc == 0x8003 && t.p == 0x00 && memByte t.mem 0x012000 == 0x00 && memByte t.mem 0x012001 == 0xFF) :=
        by decide
theorem test_bcc_2_5_1 :
    after ({ start with e := true, p := 0x30 } |> coded [0x90, 0x10])
      (fun t => t.pc == 0x8012 && t.p == 0x30) := by decide
theorem test_bcc_2_5_2 :
    after ({ start with e := true, p := 0x31 } |> coded [0x90, 0x10])
      (fun t => t.pc == 0x8002 && t.p == 0x31) := by decide
theorem test_bcs_2_5_3 :
    after ({ start with e := true, p := 0x31 } |> coded [0xB0, 0xFE])
      (fun t => t.pc == 0x8000 && t.p == 0x31) := by decide
theorem test_beq_2_5_4 :
    after ({ start with e := true, p := 0x32 } |> coded [0xF0, 0x80])
      (fun t => t.pc == 0x7F82 && t.p == 0x32) := by decide
theorem test_bne_2_5_5 :
    after ({ start with e := true, p := 0x30 } |> coded [0xD0, 0x7F])
      (fun t => t.pc == 0x8081 && t.p == 0x30) := by decide
theorem test_bmi_2_5_6 :
    after ({ start with e := true, p := 0xB0 } |> coded [0x30, 0x05])
      (fun t => t.pc == 0x8007 && t.p == 0xB0) := by decide
theorem test_bpl_2_5_7 :
    after ({ start with e := true, p := 0xB0 } |> coded [0x10, 0x05])
      (fun t => t.pc == 0x8002 && t.p == 0xB0) := by decide
theorem test_bvc_2_5_8 :
    after ({ start with e := true, p := 0x30 } |> coded [0x50, 0x05])
      (fun t => t.pc == 0x8007 && t.p == 0x30) := by decide
theorem test_bvs_2_5_9 :
    after ({ start with e := true, p := 0x30 } |> coded [0x70, 0x05])
      (fun t => t.pc == 0x8002 && t.p == 0x30) := by decide
theorem test_bra_2_5_10 :
    after ({ start with p := 0x00, pb := 0x01, pc := 0xFFF8 } |> coded [0x80, 0x10])
      (fun t => t.pc == 0x000A && t.p == 0x00) := by decide
theorem test_brl_2_5_12 :
    after ({ start with p := 0x00 } |> coded [0x82, 0x00, 0x80])
      (fun t => t.pc == 0x0003 && t.p == 0x00) := by decide
theorem test_jmp_2_6_1 :
    after ({ start with p := 0x00, pb := 0x05 } |> coded [0x4C, 0x34, 0x12])
      (fun t => t.pc == 0x1234 && t.p == 0x00) := by decide
theorem test_jmp_2_6_3 :
    after ({ start with p := 0x00, pb := 0x05 }
      |> coded [0x6C, 0xFF, 0xFF] |> placed 0x00FFFF [0x34] |> placed 0x000000 [0x12])
      (fun t => t.pc == 0x1234 && t.p == 0x00) := by decide
theorem test_jmp_2_6_4 :
    after ({ start with p := 0x00, x := 0x0001, pb := 0x05 }
      |> coded [0x7C, 0xFE, 0xFF] |> placed 0x05FFFF [0x78] |> placed 0x050000 [0x56])
      (fun t => t.pc == 0x5678 && t.p == 0x00) := by decide
theorem test_jml_2_6_2 :
    after ({ start with p := 0x00 } |> coded [0x5C, 0x56, 0x34, 0x12])
      (fun t => t.pb == 0x12 && t.pc == 0x3456 && t.p == 0x00) := by decide
theorem test_jml_2_6_5 :
    after ({ start with p := 0x00 } |> coded [0xDC, 0x00, 0x20] |> placed 0x002000 [0x56, 0x34, 0x12])
      (fun t => t.pb == 0x12 && t.pc == 0x3456 && t.p == 0x00) := by decide
theorem test_jsr_2_6_6 :
    after ({ start with e := true, p := 0x30, sp := 0x01FF } |> coded [0x20, 0x00, 0x90])
      (fun t => t.sp == 0x01FD && t.pc == 0x9000 && t.p == 0x30 && memByte t.mem 0x0001FF == 0x80 && memByte t.mem
        0x0001FE == 0x02) := by decide
theorem test_jsr_2_6_8 :
    after ({ start with p := 0x00, x := 0x0002, sp := 0x1FFF }
      |> coded [0xFC, 0x00, 0x90] |> placed 0x009002 [0xCD, 0xAB])
      (fun t => t.sp == 0x1FFD && t.pc == 0xABCD && t.p == 0x00 && memByte t.mem 0x001FFF == 0x80 && memByte t.mem
        0x001FFE == 0x02) := by decide
theorem test_jsl_2_6_7 :
    after ({ start with p := 0x00, sp := 0x1FFF, pb := 0x01 } |> coded [0x22, 0x00, 0x90, 0x7E])
      (fun t => t.sp == 0x1FFC && t.pb == 0x7E && t.pc == 0x9000 && t.p == 0x00 && memByte t.mem 0x001FFF == 0x01 &&
        memByte t.mem 0x001FFE == 0x80 && memByte t.mem 0x001FFD == 0x03) := by decide
theorem test_rts_2_6_9 :
    after ({ start with e := true, p := 0x30, sp := 0x01FD, pc := 0x9000 }
      |> coded [0x60] |> placed 0x0001FE [0x02, 0x80])
      (fun t => t.sp == 0x01FF && t.pc == 0x8003 && t.p == 0x30) := by decide
theorem test_rtl_2_6_11 :
    after ({ start with p := 0x00, sp := 0x1FFC, pb := 0x7E, pc := 0x9000 }
      |> coded [0x6B] |> placed 0x001FFD [0x03, 0x80, 0x01])
      (fun t => t.sp == 0x1FFF && t.pb == 0x01 && t.pc == 0x8004 && t.p == 0x00) := by decide
theorem test_brk_2_7_1 :
    after ({ start with e := true, p := 0x38, sp := 0x01FF } |> coded [0x00, 0xEA] |> placed 0x00FFFE [0x00, 0x90])
      (fun t => t.sp == 0x01FC && t.pc == 0x9000 && t.p == 0x34 && memByte t.mem 0x0001FF == 0x80 && memByte t.mem
        0x0001FE == 0x02 && memByte t.mem 0x0001FD == 0x38) := by decide
theorem test_brk_2_7_2 :
    after ({ start with p := 0x09, sp := 0x1FFF, pb := 0x12 } |> coded [0x00, 0xEA] |> placed 0x00FFE6 [0x00, 0x90])
      (fun t => t.sp == 0x1FFB && t.pb == 0x00 && t.pc == 0x9000 && t.p == 0x05 && memByte t.mem 0x001FFF == 0x12 &&
        memByte t.mem 0x001FFE == 0x80 && memByte t.mem 0x001FFD == 0x02 && memByte t.mem 0x001FFC == 0x09) := by
          decide
theorem test_cop_2_7_3 :
    after ({ start with e := true, p := 0x30, sp := 0x01FF } |> coded [0x02, 0x55] |> placed 0x00FFF4 [0x00, 0xA0])
      (fun t => t.sp == 0x01FC && t.pc == 0xA000 && t.p == 0x34 && memByte t.mem 0x0001FF == 0x80 && memByte t.mem
        0x0001FE == 0x02 && memByte t.mem 0x0001FD == 0x30) := by decide
theorem test_cop_2_7_4 :
    after ({ start with p := 0x00, sp := 0x1FFF } |> coded [0x02, 0x55] |> placed 0x00FFE4 [0x00, 0xA0])
      (fun t => t.sp == 0x1FFB && t.pc == 0xA000 && t.p == 0x04 && memByte t.mem 0x001FFF == 0x00 && memByte t.mem
        0x001FFE == 0x80 && memByte t.mem 0x001FFD == 0x02 && memByte t.mem 0x001FFC == 0x00) := by decide
theorem test_rti_2_7_5 :
    after ({ start with e := true, p := 0x34, sp := 0x01FC, pc := 0x9000 }
      |> coded [0x40] |> placed 0x0001FD [0xC3, 0x02, 0x80])
      (fun t => t.sp == 0x01FF && t.pc == 0x8002 && t.p == 0xF3) := by decide
theorem test_rti_2_7_6 :
    after ({ start with p := 0x04, x := 0x1234, sp := 0x1FFB, pc := 0x9000 }
      |> coded [0x40] |> placed 0x001FFC [0x10, 0x02, 0x80, 0x12])
      (fun t => t.x == 0x0034 && t.sp == 0x1FFF && t.pb == 0x12 && t.pc == 0x8002 && t.p == 0x10) := by decide
theorem test_pha_2_8_1 :
    after ({ start with e := true, p := 0x30, c := 0x12AB, sp := 0x0100 } |> coded [0x48])
      (fun t => t.sp == 0x01FF && t.pc == 0x8001 && t.p == 0x30 && memByte t.mem 0x000100 == 0xAB) := by decide
theorem test_pha_2_8_3 :
    after ({ start with p := 0x00, c := 0x12AB, sp := 0x0000 } |> coded [0x48])
      (fun t => t.sp == 0xFFFE && t.pc == 0x8001 && t.p == 0x00 && memByte t.mem 0x000000 == 0x12 && memByte t.mem
        0x00FFFF == 0xAB) := by decide
theorem test_phx_2_8_4 :
    after ({ start with p := 0x20, x := 0x1234, sp := 0x1FFF } |> coded [0xDA])
      (fun t => t.sp == 0x1FFD && t.pc == 0x8001 && t.p == 0x20 && memByte t.mem 0x001FFF == 0x12 && memByte t.mem
        0x001FFE == 0x34) := by decide
theorem test_phy_2_8_5 :
    after ({ start with p := 0x10, y := 0x0056, sp := 0x1FFF } |> coded [0x5A])
      (fun t => t.sp == 0x1FFE && t.pc == 0x8001 && t.p == 0x10 && memByte t.mem 0x001FFF == 0x56) := by decide
theorem test_phb_2_8_6 :
    after ({ start with p := 0x00, sp := 0x1FFF, db := 0x7E } |> coded [0x8B])
      (fun t => t.sp == 0x1FFE && t.pc == 0x8001 && t.p == 0x00 && memByte t.mem 0x001FFF == 0x7E) := by decide
theorem test_phd_2_8_7 :
    after ({ start with e := true, p := 0x30, sp := 0x01FF, d := 0x1234 } |> coded [0x0B])
      (fun t => t.sp == 0x01FD && t.pc == 0x8001 && t.p == 0x30 && memByte t.mem 0x0001FF == 0x12 && memByte t.mem
        0x0001FE == 0x34) := by decide
theorem test_phk_2_8_8 :
    after ({ start with p := 0x00, sp := 0x1FFF, pb := 0x05 } |> coded [0x4B])
      (fun t => t.sp == 0x1FFE && t.pc == 0x8001 && t.p == 0x00 && memByte t.mem 0x001FFF == 0x05) := by decide
theorem test_php_2_8_9 :
    after ({ start with e := true, p := 0x33, sp := 0x01FF } |> coded [0x08])
      (fun t => t.sp == 0x01FE && t.pc == 0x8001 && t.p == 0x33 && memByte t.mem 0x0001FF == 0x33) := by decide
theorem test_pla_2_8_11 :
    after ({ start with e := true, p := 0x30, c := 0x1200, sp := 0x01FF } |> coded [0x68] |> placed 0x000100 [0x80])
      (fun t => t.c == 0x1280 && t.sp == 0x0100 && t.pc == 0x8001 && t.p == 0xB0) := by decide
theorem test_pla_2_8_12 :
    after ({ start with p := 0x00, sp := 0x1FFD } |> coded [0x68] |> placed 0x001FFE [0x00, 0x00])
      (fun t => t.sp == 0x1FFF && t.pc == 0x8001 && t.p == 0x02) := by decide
theorem test_plx_2_8_13 :
    after ({ start with p := 0x10, x := 0x0000, sp := 0x1FFE } |> coded [0xFA] |> placed 0x001FFF [0x99])
      (fun t => t.x == 0x0099 && t.sp == 0x1FFF && t.pc == 0x8001 && t.p == 0x90) := by decide
theorem test_ply_2_8_14 :
    after ({ start with p := 0x00, sp := 0x1FFD } |> coded [0x7A] |> placed 0x001FFE [0x34, 0x12])
      (fun t => t.y == 0x1234 && t.sp == 0x1FFF && t.pc == 0x8001 && t.p == 0x00) := by decide
theorem test_plb_2_8_15 :
    after ({ start with p := 0x00, sp := 0x1FFE } |> coded [0xAB] |> placed 0x001FFF [0x80])
      (fun t => t.sp == 0x1FFF && t.db == 0x80 && t.pc == 0x8001 && t.p == 0x80) := by decide
theorem test_pld_2_8_16 :
    after ({ start with e := true, p := 0x30, sp := 0x01FD } |> coded [0x2B] |> placed 0x0001FE [0x00, 0x00])
      (fun t => t.sp == 0x01FF && t.pc == 0x8001 && t.p == 0x32) := by decide
theorem test_plp_2_8_17 :
    after ({ start with e := true, p := 0x30, sp := 0x01FE } |> coded [0x28] |> placed 0x0001FF [0x00])
      (fun t => t.sp == 0x01FF && t.pc == 0x8001 && t.p == 0x30) := by decide
theorem test_plp_2_8_18 :
    after ({ start with p := 0x00, x := 0x1234, y := 0xABCD, sp := 0x1FFE }
      |> coded [0x28] |> placed 0x001FFF [0x10])
      (fun t => t.x == 0x0034 && t.y == 0x00CD && t.sp == 0x1FFF && t.pc == 0x8001 && t.p == 0x10) := by decide
theorem test_pea_2_8_19 :
    after ({ start with e := true, p := 0x30, sp := 0x01FF } |> coded [0xF4, 0x34, 0x12])
      (fun t => t.sp == 0x01FD && t.pc == 0x8003 && t.p == 0x30 && memByte t.mem 0x0001FF == 0x12 && memByte t.mem
        0x0001FE == 0x34) := by decide
theorem test_pei_2_8_20 :
    after ({ start with p := 0x00, sp := 0x1FFF, d := 0x0100 } |> coded [0xD4, 0x10] |> placed 0x000110 [0xCD, 0xAB])
      (fun t => t.sp == 0x1FFD && t.pc == 0x8002 && t.p == 0x00 && memByte t.mem 0x001FFF == 0xAB && memByte t.mem
        0x001FFE == 0xCD) := by decide
theorem test_per_2_8_21 :
    after ({ start with p := 0x00, sp := 0x1FFF } |> coded [0x62, 0x10, 0x00])
      (fun t => t.sp == 0x1FFD && t.pc == 0x8003 && t.p == 0x00 && memByte t.mem 0x001FFF == 0x80 && memByte t.mem
        0x001FFE == 0x13) := by decide
theorem test_lda_2_9_1 :
    after ({ start with e := true, p := 0x30, c := 0x12FF } |> coded [0xA9, 0x00])
      (fun t => t.c == 0x1200 && t.pc == 0x8002 && t.p == 0x32) := by decide
theorem test_lda_2_9_2 :
    after ({ start with p := 0x00 } |> coded [0xA9, 0x00, 0x80])
      (fun t => t.c == 0x8000 && t.pc == 0x8003 && t.p == 0x80) := by decide
theorem test_ldx_2_9_3 :
    after ({ start with p := 0x20 } |> coded [0xA2, 0x34, 0x12])
      (fun t => t.x == 0x1234 && t.pc == 0x8003 && t.p == 0x20) := by decide
theorem test_ldy_2_9_4 :
    after ({ start with p := 0x10 } |> coded [0xA0, 0x80])
      (fun t => t.y == 0x0080 && t.pc == 0x8002 && t.p == 0x90) := by decide
theorem test_sta_2_9_9 :
    after ({ start with p := 0x00, c := 0x1234, db := 0x7E } |> coded [0x8D, 0x00, 0x20])
      (fun t => t.pc == 0x8003 && t.p == 0x00 && memByte t.mem 0x7E2000 == 0x34 && memByte t.mem 0x7E2001 == 0x12) :=
        by decide
theorem test_sta_2_9_10 :
    after ({ start with e := true, p := 0x30, c := 0x1234 } |> coded [0x85, 0x10])
      (fun t => t.pc == 0x8002 && t.p == 0x30 && memByte t.mem 0x000010 == 0x34) := by decide
theorem test_stx_2_9_11 :
    after ({ start with p := 0x20, x := 0xABCD } |> coded [0x86, 0x10])
      (fun t => t.pc == 0x8002 && t.p == 0x20 && memByte t.mem 0x000010 == 0xCD && memByte t.mem 0x000011 == 0xAB) :=
        by decide
theorem test_sty_2_9_12 :
    after ({ start with e := true, p := 0x30, y := 0x0099 } |> coded [0x8C, 0x00, 0x20])
      (fun t => t.pc == 0x8003 && t.p == 0x30 && memByte t.mem 0x002000 == 0x99) := by decide
theorem test_stz_2_9_13 :
    after ({ start with p := 0x00, c := 0xFFFF } |> coded [0x9C, 0x00, 0x20])
      (fun t => t.pc == 0x8003 && t.p == 0x00 && memByte t.mem 0x002000 == 0x00 && memByte t.mem 0x002001 == 0x00) :=
        by decide
theorem test_tax_2_9_15 :
    after ({ start with p := 0x20, c := 0x1234 } |> coded [0xAA])
      (fun t => t.x == 0x1234 && t.pc == 0x8001 && t.p == 0x20) := by decide
theorem test_tax_2_9_16 :
    after ({ start with p := 0x10, c := 0x1280 } |> coded [0xAA])
      (fun t => t.x == 0x0080 && t.pc == 0x8001 && t.p == 0x90) := by decide
theorem test_tay_2_9_17 :
    after ({ start with p := 0x00, c := 0x0000, y := 0x5555 } |> coded [0xA8])
      (fun t => t.y == 0x0000 && t.pc == 0x8001 && t.p == 0x02) := by decide
theorem test_txa_2_9_18 :
    after ({ start with p := 0x20, c := 0x1200, x := 0x3480 } |> coded [0x8A])
      (fun t => t.c == 0x1280 && t.pc == 0x8001 && t.p == 0xA0) := by decide
theorem test_tya_2_9_19 :
    after ({ start with p := 0x10, c := 0xFFFF, y := 0x0034 } |> coded [0x98])
      (fun t => t.c == 0x0034 && t.pc == 0x8001 && t.p == 0x10) := by decide
theorem test_txy_2_9_20 :
    after ({ start with p := 0x00, x := 0x8000 } |> coded [0x9B])
      (fun t => t.y == 0x8000 && t.pc == 0x8001 && t.p == 0x80) := by decide
theorem test_tyx_2_9_21 :
    after ({ start with e := true, p := 0x30, x := 0x0011, y := 0x0000 } |> coded [0xBB])
      (fun t => t.x == 0x0000 && t.pc == 0x8001 && t.p == 0x32) := by decide
theorem test_tsx_2_9_22 :
    after ({ start with e := true, p := 0x30, sp := 0x01FF } |> coded [0xBA])
      (fun t => t.x == 0x00FF && t.pc == 0x8001 && t.p == 0xB0) := by decide
theorem test_txs_2_9_24 :
    after ({ start with e := true, p := 0x30, x := 0x0080, sp := 0x01FF } |> coded [0x9A])
      (fun t => t.sp == 0x0180 && t.pc == 0x8001 && t.p == 0x30) := by decide
theorem test_txs_2_9_25 :
    after ({ start with p := 0x10, x := 0x0080, sp := 0x1FFF } |> coded [0x9A])
      (fun t => t.sp == 0x0080 && t.pc == 0x8001 && t.p == 0x10) := by decide
theorem test_tcd_2_9_26 :
    after ({ start with e := true, p := 0x30, c := 0x8000 } |> coded [0x5B])
      (fun t => t.d == 0x8000 && t.pc == 0x8001 && t.p == 0xB0) := by decide
theorem test_tdc_2_9_27 :
    after ({ start with e := true, p := 0x30, c := 0xFFFF, d := 0x0000 } |> coded [0x7B])
      (fun t => t.c == 0x0000 && t.pc == 0x8001 && t.p == 0x32) := by decide
theorem test_tcs_2_9_28 :
    after ({ start with p := 0x00, c := 0x1FFF, sp := 0x01FF } |> coded [0x1B])
      (fun t => t.sp == 0x1FFF && t.pc == 0x8001 && t.p == 0x00) := by decide
theorem test_tcs_2_9_29 :
    after ({ start with e := true, p := 0x30, c := 0x20EF, sp := 0x01FF } |> coded [0x1B])
      (fun t => t.sp == 0x01EF && t.pc == 0x8001 && t.p == 0x30) := by decide
theorem test_tsc_2_9_30 :
    after ({ start with e := true, p := 0x30, c := 0x0000, sp := 0x01FF } |> coded [0x3B])
      (fun t => t.c == 0x01FF && t.pc == 0x8001 && t.p == 0x30) := by decide
theorem test_xba_2_9_31 :
    after ({ start with e := true, p := 0x30, c := 0x8000 } |> coded [0xEB])
      (fun t => t.c == 0x0080 && t.pc == 0x8001 && t.p == 0xB0) := by decide
theorem test_clc_2_10_1 :
    after ({ start with e := true, p := 0x31 } |> coded [0x18])
      (fun t => t.pc == 0x8001 && t.p == 0x30) := by decide
theorem test_sec_2_10_2 :
    after ({ start with e := true, p := 0x30 } |> coded [0x38])
      (fun t => t.pc == 0x8001 && t.p == 0x31) := by decide
theorem test_cli_2_10_3 :
    after ({ start with e := true, p := 0x34 } |> coded [0x58])
      (fun t => t.pc == 0x8001 && t.p == 0x30) := by decide
theorem test_sei_2_10_4 :
    after ({ start with e := true, p := 0x30 } |> coded [0x78])
      (fun t => t.pc == 0x8001 && t.p == 0x34) := by decide
theorem test_cld_2_10_5 :
    after ({ start with e := true, p := 0x38 } |> coded [0xD8])
      (fun t => t.pc == 0x8001 && t.p == 0x30) := by decide
theorem test_sed_2_10_6 :
    after ({ start with e := true, p := 0x30 } |> coded [0xF8])
      (fun t => t.pc == 0x8001 && t.p == 0x38) := by decide
theorem test_clv_2_10_7 :
    after ({ start with e := true, p := 0x70 } |> coded [0xB8])
      (fun t => t.pc == 0x8001 && t.p == 0x30) := by decide
theorem test_rep_2_10_8 :
    after ({ start with p := 0x30 } |> coded [0xC2, 0x30])
      (fun t => t.pc == 0x8002 && t.p == 0x00) := by decide
theorem test_rep_2_10_9 :
    after ({ start with e := true, p := 0xFF } |> coded [0xC2, 0xFF])
      (fun t => t.pc == 0x8002 && t.p == 0x30) := by decide
theorem test_sep_2_10_10 :
    after ({ start with p := 0x00, x := 0x1234, y := 0xFFFF } |> coded [0xE2, 0x10])
      (fun t => t.x == 0x0034 && t.y == 0x00FF && t.pc == 0x8002 && t.p == 0x10) := by decide
theorem test_xce_2_10_12 :
    after ({ start with e := true, p := 0x30 } |> coded [0xFB])
      (fun t => t.pc == 0x8001 && t.p == 0x31 && t.e == false) := by decide
theorem test_xce_2_10_13 :
    after ({ start with p := 0x01, x := 0x1234, y := 0x5678, sp := 0x1FF0 } |> coded [0xFB])
      (fun t => t.x == 0x0034 && t.y == 0x0078 && t.sp == 0x01F0 && t.pc == 0x8001 && t.p == 0x30 && t.e == true) :=
        by decide
theorem test_nop_2_10_16 :
    after ({ start with e := true, p := 0x30 } |> coded [0xEA])
      (fun t => t.pc == 0x8001 && t.p == 0x30) := by decide
theorem test_wdm_2_10_17 :
    after ({ start with e := true, p := 0x30 } |> coded [0x42, 0xEA])
      (fun t => t.pc == 0x8001 && t.p == 0x30 && t.reports == [⟨0x42, 0x00, 0x8000⟩]) := by decide
theorem test_wdm_2_10_18 :
    after ({ start with e := true, p := 0x30, config := { Config.default with unknownOpcodes := [] } }
      |> coded [0x42, 0xEA])
      (fun t => t.pc == 0x8002 && t.p == 0x30) := by decide
theorem test_mvn_2_11_1 :
    after ({ start with p := 0x00, c := 0x0002, x := 0x1000, y := 0x2000 }
      |> coded [0x54, 0x7F, 0x7E] |> placed 0x7E1000 [0x11, 0x22, 0x33])
      (fun t => t.c == 0x0001 && t.x == 0x1001 && t.y == 0x2001 && t.db == 0x7F && t.pc == 0x8000 && t.p == 0x00 &&
        memByte t.mem 0x7F2000 == 0x11) := by decide
theorem test_lda_2_12_1 :
    after ({ start with e := true, p := 0x30, d := 0xFFF0 } |> coded [0xA5, 0x20] |> placed 0x000010 [0x5A])
      (fun t => t.c == 0x005A && t.pc == 0x8002 && t.p == 0x30) := by decide
theorem test_lda_2_12_4 :
    after ({ start with e := true, p := 0x30, d := 0xFF00, db := 0x7E }
      |> coded [0xB2, 0xFF] |> placed 0x00FFFF [0x34] |> placed 0x000000 [0x12] |> placed 0x7E1234 [0x5A])
      (fun t => t.c == 0x005A && t.pc == 0x8002 && t.p == 0x30) := by decide
theorem test_lda_2_12_7 :
    after ({ start with p := 0x20, y := 0x0002, db := 0x7E, config := { Config.default with indexCarriesIntoBank :=
      true } }
      |> coded [0xB1, 0x10] |> placed 0x000010 [0xFF, 0xFF] |> placed 0x7E0001 [0x5A] |> placed 0x7F0001 [0xA5])
      (fun t => t.c == 0x00A5 && t.pc == 0x8002 && t.p == 0xA0) := by decide
theorem test_lda_2_12_11 :
    after ({ start with p := 0x20, sp := 0xFFFF } |> coded [0xA3, 0x02] |> placed 0x000001 [0x5A])
      (fun t => t.c == 0x005A && t.pc == 0x8002 && t.p == 0x20) := by decide

theorem test_adc_decimal_2_2_5 :
    after ({ start with p := 0x08, c := 0x1289 } |> coded [0x69, 0x34, 0x12])
      (fun t => t.c == 0x2523 && t.pc == 0x8003 && t.freeCounter == 1) := by decide
theorem test_sbc_decimal_2_2_7 :
    after ({ start with e := true, p := 0x39, c := 0x0000 } |> coded [0xE9, 0x01])
      (fun t => t.c == 0x0099 && t.pc == 0x8002 && t.freeCounter == 1) := by decide
theorem test_mvp_2_11_3 :
    after ({ start with c := 0x0001, x := 0x1001, y := 0x1002 } |> coded [0x44, 0x00, 0x00]
        |> placed 0x001000 [0xAA, 0xBB])
      (fun t => t.c == 0x0000 && t.x == 0x1000 && t.y == 0x1001 && t.pc == 0x8000 &&
        memByte t.mem 0x001002 == 0xBB) := by decide
theorem test_wai_2_10_20 :
    after ({ start with e := true, p := 0x34 } |> coded [0xCB, 0xEA])
      (fun t => t.pc == 0x8001 && t.run == .waiting) := by decide
theorem test_wai_2_10_22_irq :
    after ({ start with e := true, p := 0x30, run := .waiting, irqLine := true, pc := 0x8001 }
        |> placed 0x00FFFE [0x00, 0x90])
      (fun t => t.sp == 0x01FC && t.pc == 0x9000 && t.p == 0x34 && t.run == .running &&
        memByte t.mem 0x0001FF == 0x80 && memByte t.mem 0x0001FE == 0x01) := by decide
theorem test_stp_2_10_24 :
    after ({ start with e := true, p := 0x30 } |> coded [0xDB, 0xEA])
      (fun t => t.pc == 0x8001 && t.run == .stopped) := by decide
theorem test_stp_2_10_24_nmi :
    after ({ start with e := true, p := 0x30, run := .stopped, nmiPending := true, irqLine := true } |> coded [0xEA])
      (fun t => t.pc == 0x8000 && t.run == .stopped && t.nmiPending && t.sp == 0x01FF) := by decide
theorem test_fetch_wraps_2_12_19 :
    after ({ start with pb := 0x01, pc := 0xFFFE } |> coded [0xA9, 0x34] |> placed 0x010000 [0x12])
      (fun t => t.c == 0x1234 && t.pc == 0x0001 && t.pb == 0x01) := by decide

/-! The coprocessor: vectors of section 3. -/

/-- An enabled timer with this target and counter. -/
def timerOf (target counter : Byte) : Timer := { enabled := true, counter := counter, target := target, out := 0 }

theorem test_timer_3_1_3 :
    applyTimes Timer.tick 10 (timerOf 4 0) = { timerOf 4 0 with counter := 2, out := 2 } := by decide
theorem test_timer_3_1_6_wraps :
    Timer.tick (timerOf 0 255) = { timerOf 0 0 with out := 1 } := by decide
theorem test_upload_3_2_1 :
    upload [] [0x03, 0x00, 0x00, 0x02, 0xAA, 0xBB, 0xCC, 0x02, 0x00, 0xFF, 0xFF, 0x11, 0x22, 0x00, 0x00, 0x34, 0x12] =
      [(0x0000, 0x22), (0x0200, 0xAA), (0x0201, 0xBB), (0x0202, 0xCC), (0xFFFF, 0x11)] := by decide
theorem test_upload_3_2_2 :
    upload [] [0x02, 0x00, 0x00, 0x03, 0x01, 0x02, 0x05, 0x00, 0x00, 0x04, 0x09, 0x09] =
      [(0x0300, 0x01), (0x0301, 0x02)] := by decide
theorem test_brr_3_4_2 : brrSample 0xC0 0x7 0 0 = 14336 ∧ brrSample 0xC0 0xF 14336 0 = BitVec.ofInt 16 (-2048) := by decide
theorem test_brr_3_4_5 : brrSample 0x8C 0x1 (BitVec.ofInt 16 (-1000)) 2000 = BitVec.ofInt 16 (-3293) := by decide
theorem test_brr_3_4_7 : brrSample 0xC4 0x7 16000 0 = BitVec.ofInt 16 (-3432) := by decide
theorem test_mailbox_3_3_1 : ((State.reset.apu.setInPort 0 0x05).read 0xF4).1 = 0x05 := by decide

/-! Witnesses: for each statement with hypotheses, a state and operands that meet them, clause by clause. -/

/-- The next step executes what stands at `PB:PC`. -/
theorem executes_of {s : State} (hq : s.hostQueue = []) (hr : s.run = .running) (hn : s.nmiPending = false)
    (hi : s.irqLine = false) : Executes s :=
  ⟨.inl hq, hr, hn, .inl hi⟩

/-- The invariant of a state with reset's memories and cursors, in native mode with 16-bit indexes. -/
theorem start_inv : start.Inv :=
  ⟨⟨nofun, nofun, nofun⟩, ⟨nofun, nofun⟩, ⟨rfl, rfl, rfl⟩, ⟨id, id, id⟩⟩

theorem witness_DecodeOfEncode :
    (Instr.ldaImm (.word 0xFFFF)).wellFormed ⟨false, true, false⟩ = true ∧
      (Instr.cpxImm (.byte 0xFF)).wellFormed ⟨false, true, false⟩ = true ∧
      (Instr.wdm (some 0xFF)).wellFormed ⟨true, true, true⟩ = true := by decide

theorem witness_EncodeOfDecode :
    decode resetContext [0x22, 0xFF, 0xFF, 0xFF, 0x00] = .ok (.jsl 0xFFFFFF, [0x00]) := rfl

theorem witness_LengthFollowsWidths :
    (start |> coded [0x09]).codeByte 0 ∈ immMOpcodes ∧ (start |> coded [0xE0]).codeByte 0 ∈ immXOpcodes ∧
      (start |> coded [0xFF]).codeByte 0 ∉ immMOpcodes ∧ (start |> coded [0xFF]).codeByte 0 ∉ immXOpcodes := by decide

theorem witness_StepRunsTheDecodedInstruction :
    let s := start |> coded [0xA9, 0x34, 0x12]
    Executes s ∧ s.config.knows (s.codeByte 0) = true ∧
      decode s.decodeContext [s.codeByte 0, s.codeByte 1, s.codeByte 2, s.codeByte 3] =
        .ok (.ldaImm (.word 0x1234), [0x00]) :=
  ⟨executes_of rfl rfl rfl rfl, by decide, rfl⟩

theorem witness_UnknownOpcodeIsSkipped :
    let s := start |> coded [0x42]
    Executes s ∧ s.config.knows (s.codeByte 0) = false :=
  ⟨executes_of rfl rfl rfl rfl, by decide⟩

theorem witness_StopHoldsUntilReset :
    let s := { start with run := .stopped, nmiPending := true }
    s.run = .stopped ∧ CpuTurn s ∧ ∃ t, step s = .next t :=
  ⟨rfl, .inl rfl, _, rfl⟩

theorem witness_WaitEndsWithAnInterrupt :
    (let s := { start with run := .waiting }
     s.run = .waiting ∧ CpuTurn s ∧ s.nmiPending = false ∧ s.irqLine = false) ∧
    (let s := { start with run := .waiting, nmiPending := true }
     s.run = .waiting ∧ CpuTurn s ∧ s.nmiPending = true) ∧
    (let s := { start with run := .waiting, irqLine := true }
     s.run = .waiting ∧ CpuTurn s ∧ s.nmiPending = false ∧ s.irqLine = true ∧ s.flag .i = false) ∧
    (let s := { start with run := .waiting, irqLine := true, p := 0x04 }
     s.run = .waiting ∧ CpuTurn s ∧ s.nmiPending = false ∧ s.irqLine = true ∧ s.flag .i = true) :=
  ⟨⟨rfl, .inl rfl, rfl, rfl⟩, ⟨rfl, .inl rfl, rfl⟩, ⟨rfl, .inl rfl, rfl, rfl, by decide⟩,
    ⟨rfl, .inl rfl, rfl, rfl, by decide⟩⟩

theorem witness_InterruptsAreTaken :
    (let s := { start with nmiPending := true, hostQueue := [.step] }
     CpuTurn s ∧ s.run ≠ .stopped ∧ s.nmiPending = true) ∧
    (let s := { start with irqLine := true }
     CpuTurn s ∧ s.run ≠ .stopped ∧ s.nmiPending = false ∧ s.irqLine = true ∧ s.flag .i = false) ∧
    (let s := { start with irqLine := true, p := 0x04 }
     CpuTurn s ∧ s.run = .running ∧ s.nmiPending = false ∧ s.irqLine = true ∧ s.flag .i = true ∧
       s.config.knows (s.codeByte 0) = true) ∧
    { start with hostQueue := [.pulseNmi] }.hostQueue = .pulseNmi :: [] ∧
    { start with hostQueue := [.setIrq false, .step] }.hostQueue = .setIrq false :: [.step] :=
  ⟨⟨.inr rfl, nofun, rfl⟩, ⟨.inl rfl, nofun, rfl, rfl, by decide⟩, ⟨.inl rfl, rfl, rfl, rfl, by decide, by decide⟩,
    rfl, rfl⟩

theorem witness_ReturnUndoesTrapEntry :
    (let s := { start with pb := 0xFF, p := 0x10, x := 0x00FF }
     s.EmulationInv ∧ s.IndexInv ∧ (s.e = true → s.pb = 0)) ∧
    (let s := { start with e := true, p := 0x30, sp := 0x0100 }
     s.EmulationInv ∧ s.IndexInv ∧ (s.e = true → s.pb = 0)) :=
  ⟨⟨⟨nofun, nofun, nofun⟩, ⟨fun _ => by decide, fun _ => by decide⟩, nofun⟩,
    ⟨⟨fun _ => by decide, fun _ => by decide, fun _ => by decide⟩, ⟨fun _ => by decide, fun _ => by decide⟩,
      fun _ => rfl⟩⟩

theorem witness_StepKeepsInvariant : start.Inv ∧ ∃ t, step start = .next t :=
  ⟨start_inv, _, rfl⟩

/-- A state whose configuration refuses decimal arithmetic, `P.D` set. -/
def refusing : State := { start with p := 0x08, config := { Config.default with decimalMode := .refuse } }

theorem witness_InstructionsComplete :
    DecimalRefused (.adcAbs 0) refusing ∧ DecimalRefused (.sbcImm (.word 0)) refusing ∧
      ¬ DecimalRefused (.adcAbs 0) { refusing with p := 0x00 } :=
  ⟨⟨⟨_, .inl rfl⟩, by decide, rfl⟩, ⟨⟨_, .inr rfl⟩, by decide, rfl⟩,
    fun h => absurd h.2.1 (by decide)⟩

theorem witness_OnlyExchangeWritesE : (∃ t, exec (.sep 0xFF) start = .next t) ∧ Instr.sep 0xFF ≠ .xce :=
  ⟨⟨_, rfl⟩, nofun⟩

theorem not_dataIn {i : Instr} {ops : List DataOp} (h : i.dataForm = none) : ¬ dataIn i ops := by
  rintro ⟨_, _, h', _⟩
  rw [h] at h'
  cases h'

theorem not_opcodeIn {i : Instr} {op : Byte} {codes : List Byte} (h : i.opcode = op) (hc : op ∉ codes) :
    ¬ opcodeIn i codes :=
  fun h' => hc (h ▸ h')

theorem witness_RegisterWriters :
    (∃ t, exec .nop start = .next t) ∧ ¬ writesC .nop ∧ ¬ writesX .nop ∧ ¬ writesY .nop ∧ ¬ writesS .nop ∧
      ¬ opcodeIn .nop [0x5B, 0x2B] ∧ ¬ opcodeIn .nop [0xAB, 0x54, 0x44] ∧
      ¬ opcodeIn .nop [0x5C, 0xDC, 0x22, 0x6B, 0x40, 0x00, 0x02] ∧ ¬ opcodeIn .nop [0xFB] ∧
      ¬ opcodeIn .nop [0xCB, 0xDB] ∧ ¬ writesMemory .nop := by
  have hn : Instr.nop.opcode = 0xEA := rfl
  refine ⟨⟨_, rfl⟩, ?_, ?_, ?_, not_opcodeIn hn (by decide), not_opcodeIn hn (by decide),
    not_opcodeIn hn (by decide), not_opcodeIn hn (by decide), not_opcodeIn hn (by decide),
    not_opcodeIn hn (by decide), ?_⟩
  · rintro (h | ⟨_, h⟩ | h)
    exacts [not_dataIn rfl h, (by cases h), not_opcodeIn hn (by decide) h]
  · rintro (h | h)
    exacts [not_dataIn rfl h, not_opcodeIn hn (by decide) h]
  · rintro (h | h)
    exacts [not_dataIn rfl h, not_opcodeIn hn (by decide) h]
  · rintro (⟨_, h⟩ | ⟨_, _, h⟩ | ⟨_, h⟩ | h)
    exacts [(by cases h), (by cases h), (by cases h), not_opcodeIn hn (by decide) h]

theorem witness_FlagWriters :
    (∃ t, exec (.incDp 0xFF) start = .next t) ∧ ¬ writesFlag (.incDp 0xFF) .c ∧ ¬ writesFlag (.incDp 0xFF) .v ∧
      ¬ writesFlag (.incDp 0xFF) .d := by
  have hn : (Instr.incDp 0xFF).opcode = 0xE6 := rfl
  refine ⟨⟨_, rfl⟩, ?_, ?_, not_opcodeIn hn (by decide)⟩
  · rintro (h | ⟨_, _, h, hm⟩ | h)
    · exact not_dataIn rfl h
    · cases h
      simp at hm
    · exact not_opcodeIn hn (by decide) h
  · rintro (h | ⟨_, h⟩ | h)
    exacts [not_dataIn rfl h, (by cases h), not_opcodeIn hn (by decide) h]

theorem witness_AdcBinary :
    (Instr.adcImm (.word 0xFFFF)).dataForm = some (.adc, .imm (.word 0xFFFF)) ∧ start.flag .d = false ∧
      { refusing with config := { Config.default with decimalMode := .binary } }.config.decimalMode = .binary :=
  ⟨rfl, by decide, rfl⟩

theorem witness_SbcBinary :
    (Instr.sbcDp 0xFF).dataForm = some (.sbc, .mem (.dp 0xFF)) ∧ start.flag .d = false := ⟨rfl, by decide⟩

/-- Decimal mode with all nines in the accumulator. -/
def nines : State := { start with p := 0x08, c := 0x9999 }

/-- No digit of 9999 is above 9. -/
theorem allDigits_nines : AllDigits .word 0x9999 := by
  show ∀ k, k < 4 → _
  decide

theorem witness_DecimalArithmetic :
    nines.flag .d = true ∧ nines.config.decimalMode = .bcd ∧
      (Instr.adcImm (.word 0x9999)).dataForm = some (.adc, .imm (.word 0x9999)) ∧
      (Instr.sbcImm (.word 0x9999)).dataForm = some (.sbc, .imm (.word 0x9999)) ∧
      AllDigits nines.mw (regValue nines.mw nines.c) ∧
      AllDigits nines.mw (operandValue nines .adc (.imm (.word 0x9999))) ∧
      AllDigits nines.mw (operandValue nines .sbc (.imm (.word 0x9999))) :=
  ⟨by decide, rfl, rfl, rfl, allDigits_nines, allDigits_nines, allDigits_nines⟩

theorem witness_DecimalRunsOnAnyDigits :
    let s := { nines with c := 0xABCD }
    s.flag .d = true ∧ s.config.decimalMode = .bcd ∧ (Instr.adcImm (.word 0xFFFF)).dataForm =
      some (.adc, .imm (.word 0xFFFF)) := ⟨by decide, rfl, rfl⟩

theorem witness_LogicInstructions :
    (Instr.andImm (.word 0xFF00)).dataForm = some (.and, .imm (.word 0xFF00)) ∧
      logicValue .and (regValue .word 0x0FF0) (operandValue start .and (.imm (.word 0xFF00))) = some 0x0F00 ∧
      (Instr.oraDp 0x10).dataForm = some (.ora, .mem (.dp 0x10)) ∧ logicValue .ora 0x0FF0 0xFF00 = some 0xFFF0 ∧
      (Instr.eorDp 0x10).dataForm = some (.eor, .mem (.dp 0x10)) ∧ logicValue .eor 0x0FF0 0xFF00 = some 0xF0F0 := by
  decide

theorem witness_CompareInstructions :
    (Instr.cmpDp 0xFF).dataForm = some (.cmp, .mem (.dp 0xFF)) ∧ comparedRegister start .cmp = some start.c ∧
      (Instr.cpxDp 0xFF).dataForm = some (.cpx, .mem (.dp 0xFF)) ∧ comparedRegister start .cpx = some start.x ∧
      (Instr.cpyDp 0xFF).dataForm = some (.cpy, .mem (.dp 0xFF)) ∧ comparedRegister start .cpy = some start.y :=
  ⟨rfl, rfl, rfl, rfl, rfl, rfl⟩

theorem witness_BitInstruction :
    (Instr.bitAbs 0xFFFF).dataForm = some (.bit, .mem (.abs 0xFFFF)) ∧
      (Instr.bitImm (.word 0xFFFF)).dataForm = some (.bit, .imm (.word 0xFFFF)) := ⟨rfl, rfl⟩

theorem witness_OperandIsRead :
    (start |> coded [0xA9, 0xFF, 0xFF]).nextInstr.1.dataForm = some (.lda, .imm (.word 0xFFFF)) ∧
      ({ start with p := 0x10 } |> coded [0xA2, 0xFF]).nextInstr.1.dataForm = some (.ldx, .imm (.byte 0xFF)) := by
  decide

theorem witness_ShiftsAndRotates :
    (Instr.rolAcc).rmwForm = some (.rol, .acc) ∧
      shiftResult .word 1 (targetValue { start with c := 0x8000 } .acc) .rol = some (1, true) ∧
      (Instr.rorDp 0xFF).rmwForm = some (.ror, .mem (.dp 0xFF)) ∧ shiftResult .byte 1 0x01 .ror = some (0x80, true) ∧
      (Instr.aslAbs 0xFFFF).rmwForm = some (.asl, .mem (.abs 0xFFFF)) ∧ shiftResult .byte 0 0xFF .asl = some (0xFE, true) ∧
      (Instr.lsrAcc).rmwForm = some (.lsr, .acc) ∧ shiftResult .word 0 1 .lsr = some (0, true) := by decide

theorem witness_IncrementsAndDecrements :
    (Instr.incAcc).rmwForm = some (.inc, .acc) ∧ countResult .word 0xFFFF .inc = some 0 ∧
      (Instr.decDp 0xFF).rmwForm = some (.dec, .mem (.dp 0xFF)) ∧ countResult .byte 0 .dec = some 0xFF ∧
      Instr.inx ∈ [Instr.inx, Instr.dex] ∧ Instr.dey ∈ [Instr.iny, Instr.dey] := by decide

theorem witness_TestAndSetBits :
    (Instr.tsbDp 0xFF).testForm = some (.tsb, .dp 0xFF) ∧ (Instr.trbAbs 0xFFFF).testForm = some (.trb, .abs 0xFFFF) :=
  ⟨rfl, rfl⟩

theorem witness_Branches :
    (Instr.beq 0x80).branchForm = some (.equal, 0x80) ∧ branchHolds { start with p := 0x02 } .equal ∧
      ¬ branchHolds start .equal ∧ (Instr.bra 0x7F).branchForm = some (.always, 0x7F) ∧ branchHolds start .always :=
  ⟨rfl, by show State.flag _ .z = true; decide, by show ¬ start.flag .z = true; decide, rfl, trivial⟩

theorem witness_ReturnUndoesCall :
    (∃ t, exec (.jsrAbs 0xFFFF) { start with sp := 0x0000 } = .next t) ∧
      (∃ t, exec (.jsrIndX 0xFFFF) start = .next t) ∧ (∃ t, exec (.jsl 0xFFFFFF) { start with sp := 0x0001 } = .next t) :=
  ⟨⟨_, rfl⟩, ⟨_, rfl⟩, ⟨_, rfl⟩⟩

theorem witness_Pushes :
    pushedBytes start .pha = some [0x00, 0x00] ∧ pushedBytes start (.pea 0x1234) = some [0x12, 0x34] ∧
      pushedBytes start (.per 0x7FFF) = some [0xFF, 0xFF] ∧
      (let s := { start with e := true, p := 0x30 }
       s.EmulationInv ∧ s.e = true) :=
  ⟨by decide, by decide, by decide, ⟨fun _ => by decide, fun _ => by decide, fun _ => by decide⟩, rfl⟩

theorem witness_Loads :
    (Instr.ldaLong 0xFFFFFF).dataForm = some (.lda, .mem (.long 0xFFFFFF)) ∧
      (Instr.ldxDpY 0xFF).dataForm = some (.ldx, .mem (.dpY 0xFF)) ∧
      (Instr.ldyImm (.byte 0)).dataForm = some (.ldy, .imm (.byte 0)) := ⟨rfl, rfl, rfl⟩

theorem witness_Stores :
    (Instr.staLongX 0xFFFFFF).storeForm = some (.sta, .longX 0xFFFFFF) ∧
      (Instr.stxDp 0xFF).storeForm = some (.stx, .dp 0xFF) ∧ (Instr.styAbs 0xFFFF).storeForm = some (.sty, .abs 0xFFFF) ∧
      (Instr.stzAbsX 0xFFFF).storeForm = some (.stz, .absX 0xFFFF) := ⟨rfl, rfl, rfl, rfl⟩

theorem witness_FlagInstructions :
    Instr.clv.flagForm = some (.v, false) ∧ Instr.sed.flagForm = some (.d, true) := ⟨rfl, rfl⟩

theorem witness_StatusMasks :
    Instr.rep 0xFF ∈ [Instr.rep 0xFF, Instr.sep 0xFF] ∧ Instr.sep 0xFF ∈ [Instr.rep 0xFF, Instr.sep 0xFF] := by decide

theorem witness_ExchangeCarryAndEmulation :
    (∃ t, exec .xce { start with p := 0x01 } = .next t ∧ t.e = true) ∧ ∃ t, exec .xce start = .next t ∧ t.e = false :=
  ⟨⟨_, rfl, by decide⟩, ⟨_, rfl, by decide⟩⟩

theorem witness_NoOperations :
    start.config.knows 0x42 = false ∧
      { start with config := { Config.default with unknownOpcodes := [] } }.config.knows 0x42 = true := by decide

theorem witness_BlockMoveStep :
    Instr.mvn 0x7F 0x7E ∈ [Instr.mvn 0x7F 0x7E, Instr.mvp 0x7F 0x7E] ∧
      (∃ t, exec (.mvn 0x7F 0x7E) { start with c := 0x0000 } = .next t ∧ t.c = 0xFFFF) ∧
      ∃ t, exec (.mvp 0x7F 0x7E) { start with c := 0x0001 } = .next t ∧ t.c ≠ 0xFFFF :=
  ⟨by decide, ⟨_, rfl, by decide⟩, ⟨_, rfl, by decide⟩⟩

theorem witness_BlockMoveTakesCPlusOneSteps :
    Instr.mvp 0x00 0xFF ∈ [Instr.mvn 0x00 0xFF, Instr.mvp 0x00 0xFF] ∧ 0 < start.c.toNat + 1 := by decide

theorem witness_CpuResetValues :
    let draw : ResetDraw := ⟨0xFFFF, 0xFF, 0xFF, 0x00, true, true, true, true⟩
    { start with hostQueue := [.reset draw, .step] }.hostQueue = .reset draw :: [.step] := rfl

theorem witness_ApuResetValues :
    { start with hostQueue := [.apuReset [(0, ⟨1, 2⟩)]] }.hostQueue = .apuReset [(0, ⟨1, 2⟩)] :: [] := rfl

theorem witness_TimerFiresEveryTarget :
    (timerOf 0 0).enabled = true ∧ (timerOf 0 0).counter = 0 ∧ (timerOf 1 0).enabled = true ∧
      (timerOf 255 0).counter = 0 ∧ Timer.reset.enabled = false := by decide

theorem witness_ApuAddressMap :
    ({ State.reset.apu with dspAddr := 0x7F }).dspAddr.toNat < 128 ∧
      128 ≤ ({ State.reset.apu with dspAddr := 0x80 }).dspAddr.toNat ∧ (0xEF : Word).toNat < 0xF0 ∧
      0xFF < (0x100 : Word).toNat := by decide

theorem witness_CpuAndApuAreSeparate :
    CpuTurn start ∧ { start with hostQueue := [.cycle] }.hostQueue = .cycle :: [] ∧
      { start with hostQueue := [.writeInPort 3 0xFF, .step] }.hostQueue = .writeInPort 3 0xFF :: [.step] ∧
      ∃ j : Fin 4, j ≠ 3 := ⟨.inl rfl, rfl, rfl, 0, by decide⟩

theorem witness_UploadReadsBack :
    (0 < [0xAA].length ∧ [0xAA].length < 65536) ∧ ([0x01, 0x02, 0x03] : List Byte).length < 4 ∧
      (word16 0x00 0x00).toNat = 0 ∧ ([] : List Byte).length < (word16 0x01 0x00).toNat := by decide

/-- A configuration with a small ring. -/
def smallRing : Config := { Config.default with ringSize := 4, frameSamples := 2, stepsPerSample := 2 }

/-- The DSP after reset with channel 7 keyed on, at the last residual of its block. -/
def playing : Dsp := (Dsp.reset []).setChannel 7 { Channel.reset with keyOn := true, brrPos := 15, pitch := 0x3FFF }

theorem witness_SampleCadence :
    (∃ v, (playing.channel v).keyOn = true) ∧ (∃ v, (playing.channel v).keyOn = false) ∧
      (∃ v w : Fin 8, w ≠ v) ∧ (∃ a : BitVec 7, a.toNat % 16 ≠ 8 ∧ a.toNat % 16 ≠ 9) ∧ 20 ≤ 20 ∧
    (Dsp.reset []).stepCount + 1 < smallRing.stepsPerSample ∧
      smallRing.stepsPerSample ≤ { Dsp.reset [] with stepCount := 1 }.stepCount + 1 ∧ 0 < smallRing.stepsPerSample ∧
      (Dsp.reset []).stepCount = 0 ∧ (Dsp.reset []).writeCursor < smallRing.ringSize := by decide

theorem witness_SilenceIsInvariant :
    start.apu.dsp.SilenceInv ∧ (∃ t, step start = .next t) ∧ ∀ v, ((Dsp.reset []).channel v).keyOn = false :=
  ⟨by show ∀ v, _; decide, ⟨_, rfl⟩, by decide⟩

theorem witness_KeyOnAndKeyOff :
    (channelReg 7 15 ∉ [0x4C, 0x5C, 0x6C] ∧ channelReg 4 3 ∉ [0x4C, 0x5C, 0x6C]) ∧
      (0x7D : BitVec 7) ∉ [0x4C, 0x7C] ∧ (0x7D : BitVec 7) ≠ 0x7C ∧ (0x7D : BitVec 7).toNat % 16 ≠ 8 ∧
      (0x7D : BitVec 7).toNat % 16 ≠ 9 := by decide

/-- A channel in a phase with the two bytes that choose its envelope. -/
def enveloped (phase : Phase) (adsr1 gain : Byte) : Channel :=
  { Channel.reset with keyOn := true, phase := phase, env := 0x7FF, adsr1 := adsr1, gain := gain }

theorem witness_ReleaseReachesSilence :
    (let ch := enveloped .attack 0x8F 0
     ch.phase = .attack ∧ ch.adsr1.getLsbD 7 = true) ∧
    (let ch := enveloped .decay 0x80 0
     ch.phase = .decay ∧ ch.adsr1.getLsbD 7 = true) ∧
    (let ch := enveloped .sustain 0x80 0
     ch.phase = .sustain ∧ ch.adsr1.getLsbD 7 = true) ∧
    (let ch := enveloped .attack 0 0x7F
     ch.phase ≠ .release ∧ ch.adsr1.getLsbD 7 = false ∧ ch.gain.getLsbD 7 = false) ∧
    (let ch := enveloped .attack 0 0x80
     ch.phase ≠ .release ∧ ch.adsr1.getLsbD 7 = false ∧ ch.gain.getLsbD 7 = true) ∧
    (0 < 1 ∧ 1 < 31 ∧ 1 ≤ 31 ∧ 31 ≤ 31) ∧
    ({ Channel.reset with env := 0x7FF, keyOn := true }).phase = .release ∧ 256 ≤ (List.replicate 256 0).length :=
  ⟨by decide, by decide, by decide, by decide, by decide, by decide, rfl, le_of_eq List.length_replicate.symm⟩

/-- A host that has two entries of the ring to read, over the ring's end. -/
def reading : State :=
  { start with
    config := smallRing
    readCursor := 3
    apu := { State.reset.apu with dsp := { Dsp.reset [] with writeCursor := 2, frameBoundary := 1 } } }

theorem witness_ReaderStopsAtBoundary :
    reading.RingInv ∧ 0 < reading.config.ringSize ∧ 1 < reading.readableCount ∧ reading.readableCount ≤ 2 ∧
      { reading with hostQueue := [.newFrame] }.hostQueue = .newFrame :: [] ∧
      { reading with hostQueue := [.drainSamples] }.hostQueue = .drainSamples :: [] ∧
      { reading with hostQueue := [.resetSampleBuffer] }.hostQueue = .resetSampleBuffer :: [] :=
  ⟨⟨fun _ => by decide, fun _ => by decide, fun _ => by decide⟩, by decide, by decide, by decide, rfl, rfl, rfl⟩

end Sys2Proof.Tests
end

section
/-! PROOFS. The stack, vectors and traps, in the words of the statements: what a push leaves in the slots
(R260, R261), what a vector read gives (R66), and that trap entry takes the trap (R445, R446). -/

namespace Sys2Proof.Claims

open Sys2Proof.Machine

/-! Stack slots. -/

theorem lowByte_ofInt (n : Int) : lowByte (BitVec.ofInt 16 n) = BitVec.ofInt 8 n := by
  apply BitVec.eq_of_toNat_eq
  simp only [toNat_lowByte, BitVec.toNat_ofInt]
  omega

/-- The statements' stack rule is the model's. -/
theorem stackMoved_eq_stackMove (s : State) (n : Int) :
    stackMoved s n = stackMove s.e s.sp (BitVec.ofInt 16 n) := by
  simp only [stackMoved, stackMove, lowByte_add, lowByte_ofInt]

@[simp] theorem stackMoved_zero (s : State) : stackMoved s 0 = s.sp := by
  simp [stackMoved_eq_stackMove]

/-- Two moves of the stack pointer, the second from where the first ended, are one. -/
theorem stackMove_stackMoved (s : State) (m n : Int) :
    stackMove s.e (stackMoved s m) (BitVec.ofInt 16 n) = stackMoved s (m + n) := by
  rw [stackMoved_eq_stackMove, stackMoved_eq_stackMove, stackMove_stackMove, BitVec.ofInt_add]

/-- Up to 256 bytes pushed stand in slots of their own, in emulation mode too, where the stack wraps in its page. -/
theorem pushSlot_inj {s : State} {j k : Nat} (hj : j < 256) (hk : k < 256) (h : pushSlot s j = pushSlot s k) :
    j = k := by
  rw [pushSlot, pushSlot, bank0_inj, stackMoved_eq_stackMove, stackMoved_eq_stackMove] at h
  have hlow := congrArg BitVec.toNat (stackMove_inj h)
  simp only [lowByte_ofInt, BitVec.toNat_ofInt] at hlow
  omega

/-! Pushes. -/

/-- Before the first push nothing is pushed. -/
theorem Pushed.nil (s : State) : Pushed s s [] where
  slots _ h := nomatch h
  others _ _ := rfl
  pointer := by simp

/-- One more byte pushed goes after those pushed before it (R260). -/
theorem Pushed.push8 {s t : State} {bytes : List Byte} (h : Pushed s t bytes) (he : t.e = s.e)
    (hn : bytes.length < 256) (v : Byte) : Pushed s (t.push8 v) (bytes ++ [v]) := by
  obtain ⟨slots, others, pointer⟩ := h
  have hslot : bank0 t.sp = pushSlot s bytes.length := by rw [pointer, pushSlot]
  refine ⟨fun k hk => ?_, fun a ha => ?_, ?_⟩
  · rw [push8_mem, hslot]
    obtain hlt | rfl : k < bytes.length ∨ k = bytes.length := by
      rw [List.length_append, List.length_singleton] at hk
      omega
    · have hne : pushSlot s k ≠ pushSlot s bytes.length := fun h' =>
        absurd (pushSlot_inj (by omega) hn h') (by omega)
      rw [memByte_memPutByte_ne _ _ hne, slots k hlt, List.getElem_append_left hlt]
    · simp
  · simp only [List.length_append, List.length_singleton] at ha
    rw [push8_mem, hslot, memByte_memPutByte_ne _ _ (ha _ (by omega))]
    exact others a fun k hk => ha k (by omega)
  · calc (t.push8 v).sp = stackMove s.e (stackMoved s (-(bytes.length : Int))) (BitVec.ofInt 16 (-1)) := by
          rw [push8_sp, he, pointer]; rfl
      _ = stackMoved s (-((bytes ++ [v]).length : Int)) := by
          rw [stackMove_stackMoved, List.length_append, List.length_singleton]
          congr 1
          omega

/-- A word pushed is its high byte, then its low byte (R261). -/
theorem Pushed.push16 {s t : State} {bytes : List Byte} (h : Pushed s t bytes) (he : t.e = s.e)
    (hn : bytes.length < 255) (v : Word) : Pushed s (t.push16 v) (bytes ++ [highByte v, lowByte v]) := by
  have hlen : (bytes ++ [highByte v]).length < 256 := by
    rw [List.length_append, List.length_singleton]
    omega
  have hlow := (h.push8 he (by omega) (highByte v)).push8 he hlen (lowByte v)
  rwa [List.append_assoc] at hlow

/-! Reading a vector. -/

theorem byteAt_toNat_bank0 (s : State) (offset : Word) :
    byteAt s offset.toNat = (memByte s.mem (bank0 offset)).toNat := by
  rw [byteAt, ← toNat_bank0, BitVec.ofNat_toNat, BitVec.setWidth_eq]

/-- The model's 16-bit read in bank 0 is the statements' (R66). -/
theorem toNat_memWord0 (s : State) (offset : Word) : (memWord0 s.mem offset).toNat = word0 s offset.toNat := by
  have hlow : offset.toNat % 65536 = offset.toNat := Nat.mod_eq_of_lt offset.isLt
  have hhigh : (offset.toNat + 1) % 65536 = (offset + 1).toNat := by simp [BitVec.toNat_add]
  rw [word0, hlow, hhigh, byteAt_toNat_bank0, byteAt_toNat_bank0]
  exact toNat_word16 _ _

theorem trapVector_eq_vectorOf (k : Trap) (e : Bool) : trapVector k e = vectorOf k e := by
  cases k <;> cases e <;> rfl

/-! Trap entry. -/

/-- The status byte a trap pushes (R446): bit 5 set, bit 4 the Break flag in emulation mode. -/
theorem statusPushed_pushedStatus (k : Trap) (s : State) : StatusPushed k s (pushedStatus k s.e s.p) := by
  cases he : s.e
  · simp [StatusPushed, pushedStatus, he]
  · simp only [StatusPushed, pushedStatus, he, if_true]
    intro n hn
    cases k <;> interval_cases n <;> simp

/-- `PB` in native mode, `PC` and the status go on the stack (R445). -/
theorem pushed_trapPushes (k : Trap) (s : State) : Pushed s (s.trapPushes k)
    ((if s.e then [] else [s.pb]) ++ [highByte s.pc, lowByte s.pc, pushedStatus k s.e s.p]) := by
  cases he : s.e
  · have h := (((Pushed.nil s).push8 rfl (by simp) s.pb).push16 rfl (by simp) s.pc).push8 rfl (by simp)
      (pushedStatus k s.e s.p)
    simpa [State.trapPushes, he] using h
  · have h := ((Pushed.nil s).push16 rfl (by simp) s.pc).push8 rfl (by simp) (pushedStatus k s.e s.p)
    simpa [State.trapPushes, he] using h

/-- `TrapEnter` does what R445 says. -/
theorem trapTaken_trapEnter (k : Trap) (s : State) : TrapTaken k s (s.trapEnter k) where
  saved := by
    obtain ⟨slots, others, pointer⟩ := pushed_trapPushes k s
    exact ⟨_, statusPushed_pushedStatus k s, slots, others, pointer⟩
  disabled := by simp [State.flag, trapEnter_p]
  binary := by simp [State.flag, trapEnter_p]
  flags f hf := by
    simp only [List.mem_cons, List.not_mem_nil, or_false, not_or] at hf
    simp [State.flag, trapEnter_p, hf.1, hf.2]
  bank := rfl
  vector := by
    rw [← trapVector_eq_vectorOf, ← toNat_memWord0]
    rfl
  frame := trapEnter_frame s k

end Sys2Proof.Claims
end

section
/-! PROOFS. Whose turn a step is, and the branches of the CPU's `Step()` (R13, R430). -/

namespace Sys2Proof.Claims

open Sys2Proof.Machine

/-- On the CPU's turn a step is the CPU's `Step()`, the call of it taken off the queue. -/
theorem step_of_cpuTurn {s : State} (h : CpuTurn s) : step s = engineStep (called s) := by
  obtain hq | hq := h
  · have hs : called s = s := by rw [called, hq, List.tail_nil, ← hq]
    rw [hs, step, blockStep, hq]
  · obtain ⟨rest, hq⟩ := List.head?_eq_some_iff.mp hq
    rw [step, blockStep, called, hq, List.tail_cons]

/-- With any other operation at the head of the queue, a step is that operation's effect (R466). -/
theorem step_of_hostAction {s : State} {a : HostAction} {rest : List HostAction} (hq : s.hostQueue = a :: rest)
    (ha : a ≠ .step) : step s = .next (hostEffect a { s with hostQueue := rest }) := by
  rw [step, blockStep, hq]
  cases a with
  | step => exact absurd rfl ha
  | _ => rfl

/-- A pending NMI is taken by any engine that is not stopped, and its latch cleared (R442). -/
theorem engineStep_of_nmi {s : State} (hr : s.run ≠ .stopped) (hn : s.nmiPending = true) :
    engineStep s = .next (State.trapEnter { s with nmiPending := false, run := .running } .nmi) := by
  rw [engineStep, if_neg hr, if_pos hn]

/-- An engine that is not stopped runs once an IRQ is asserted, whatever `P.I` is (R348). -/
theorem wakeOnIrq_of_irq {s : State} (hr : s.run ≠ .stopped) (hi : s.irqLine = true) :
    s.wakeOnIrq = { s with run := .running } := by
  cases h : s.run with
  | stopped => exact absurd h hr
  | running | waiting => simp [State.wakeOnIrq, hi, h]

/-- An asserted IRQ is taken when I is clear and no NMI is pending (R443, R444). -/
theorem engineStep_of_irq {s : State} (hr : s.run ≠ .stopped) (hn : s.nmiPending = false) (hi : s.irqLine = true)
    (hm : s.flag .i = false) : engineStep s = .next (State.trapEnter { s with run := .running } .irq) := by
  rw [engineStep, if_neg hr, if_neg (by simp [hn]), if_pos (by simp [hi, hm]), wakeOnIrq_of_irq hr hi]

/-- A masked IRQ lets the instruction at `PC` run, and wakes a waiting engine to run it (R348, R443). -/
theorem engineStep_of_masked_irq {s : State} (hr : s.run ≠ .stopped) (hn : s.nmiPending = false)
    (hi : s.irqLine = true) (hm : s.flag .i = true) : engineStep s = runInstruction { s with run := .running } := by
  rw [engineStep, if_neg hr, if_neg (by simp [hn]), if_neg (by simp [hm]), wakeOnIrq_of_irq hr hi, if_neg nofun]

/-- A known opcode is executed, `PC` past its bytes (R431). -/
theorem runInstruction_of_knows {s : State} (h : s.config.knows (s.codeByte 0) = true) :
    runInstruction s = exec s.nextInstr.1 { s with pc := s.pc + BitVec.ofNat 16 s.nextInstr.2 } := by
  rw [runInstruction, if_pos h]
  rfl

/-- Settles O11: on the CPU's turn by the branch of `Step()` that the latch, the line and `P.I` select, each trap
by `trapTaken_trapEnter`; the two host inputs by their effects. -/
theorem interruptsAreTaken : Obligations.InterruptsAreTaken := by
  unfold Obligations.InterruptsAreTaken
  refine ⟨fun s hturn hr hn => ?_, fun s hturn hr hn hi hm => ?_, fun s hturn hr hn hi hm hk => ?_,
    fun s rest hq => step_of_hostAction hq nofun, fun s level rest hq => step_of_hostAction hq nofun⟩
  · exact ⟨_, (step_of_cpuTurn hturn).trans (engineStep_of_nmi hr hn), trapTaken_trapEnter _ _⟩
  · have htaken := trapTaken_trapEnter .irq { called s with run := .running }
    refine ⟨_, (step_of_cpuTurn hturn).trans (engineStep_of_irq hr hn hi hm), htaken, htaken.disabled, ?_⟩
    rw [htaken.frame]
    exact hi
  · have hrun : { called s with run := .running } = called s := by rw [called, ← hr]
    calc step s = engineStep (called s) := step_of_cpuTurn hturn
      _ = runInstruction { called s with run := .running } :=
          engineStep_of_masked_irq (show s.run ≠ .stopped by simp [hr]) hn hi hm
      _ = runInstruction (called s) := by rw [hrun]
      _ = _ := runInstruction_of_knows hk

end Sys2Proof.Claims
end

section
/-! PROOFS. What an instruction can do, said once: the instructions grouped by their effect on the state, each group
named by the forms and opcodes in which the statements list the writers of a register or a flag (R25, R27). -/

namespace Sys2Proof.Claims

open Sys2Proof.Machine

theorem opcodeIn_mono {i : Instr} {codes codes' : List Byte} (h : opcodeIn i codes)
    (hsub : codes ⊆ codes' := by decide) : opcodeIn i codes' := hsub h

/-- The opcode byte is the first byte of the encoding. -/
theorem opcodeIn_of_encode {i : Instr} {op : Byte} {rest codes : List Byte} (h : encode i = op :: rest)
    (hop : op ∈ codes := by decide) : opcodeIn i codes := by
  rwa [opcodeIn, Instr.opcode, h]

theorem dataIn_mono {i : Instr} {ops ops' : List DataOp} (h : dataIn i ops) (hsub : ops ⊆ ops' := by decide) :
    dataIn i ops' := by
  obtain ⟨op, o, hform, hop⟩ := h
  exact ⟨op, o, hform, hsub hop⟩

/-- The instruction `i`, executed from `s`, may leave this state: which operation it is, for which instructions, with
the values that it moves left open. -/
inductive Effect (s : State) : Instr → State → Prop
  /-- `ADC`, `SBC`, in binary or with a free value drawn. -/
  | sum {i} (w : Width) (r : SumResult) (n : Nat) (h : dataIn i [.adc, .sbc]) :
      Effect s i { s.applySum w r with freeCounter := n }
  /-- Loads of `C` or of its low byte, with N and Z. -/
  | setC {i} (c v : Word) (w : Width)
      (h : dataIn i [.and, .ora, .eor, .lda] ∨ opcodeIn i [0x8A, 0x98, 0x7B, 0x3B, 0xEB]) :
      Effect s i (State.setNZ { s with c := c } v w)
  | compare {i} (r m : Word) (w : Width) (h : dataIn i [.cmp, .cpx, .cpy]) : Effect s i (s.compare r m w)
  | bit {i} (o : DataOperand) (h : i.dataForm = some (.bit, o)) : Effect s i (s.bit o)
  | loadX {i} (v : Word) (h : dataIn i [.ldx] ∨ opcodeIn i [0xAA, 0xBB, 0xBA, 0xE8, 0xCA]) : Effect s i (s.loadX v)
  | loadY {i} (v : Word) (h : dataIn i [.ldy] ∨ opcodeIn i [0xA8, 0x9B, 0xC8, 0x88]) : Effect s i (s.loadY v)
  | store {i} (ea : Addr) (w : Width) (v : Word) (h : ∃ f, i.storeForm = some f) : Effect s i (s.writeData ea w v)
  | modify {i} (op : RmwOp) (target : RmwTarget) (h : i.rmwForm = some (op, target)) :
      Effect s i (s.modify (modifyFunction op) target)
  | test {i} (f : Word → Word → Word) (mode : AddrMode) (h : ∃ f, i.testForm = some f) :
      Effect s i (s.testBits f mode)
  | flag {i} (f : Flag) (b : Bool) (h : i.flagForm = some (f, b)) : Effect s i (s.setFlag f b)
  /-- Branches and jumps in the bank, `NOP`, and `WDM` when `$42` is in K. -/
  | jump {i} (target : Word)
      (h : (∃ f, i.branchForm = some f) ∨ opcodeIn i [0x82, 0x4C, 0x6C, 0x7C, 0xEA, 0x42]) : Effect s i (s.jump target)
  | jumpLong {i} (target : Addr) (h : opcodeIn i [0x5C, 0xDC]) : Effect s i (s.jumpLong target)
  | push8 {i} (v : Byte) (h : opcodeIn i [0x48, 0xDA, 0x5A, 0x8B, 0x4B, 0x08]) : Effect s i (s.push8 v)
  /-- The 16-bit pushes, and `JSR`, which jumps after one. -/
  | push16 {i} (v target : Word) (h : opcodeIn i [0x48, 0xDA, 0x5A, 0x0B, 0xF4, 0xD4, 0x62, 0x20, 0xFC]) :
      Effect s i ((s.push16 v).jump target)
  | callLong (target : Addr) : Effect s (.jsl target) (s.callLong target)
  | trap {i} (k : Trap) (h : opcodeIn i [0x00, 0x02]) : Effect s i (s.trapEnter k)
  | pla : Effect s .pla (s.pullAcc s.mw)
  | plx : Effect s .plx (s.pullX s.xw)
  | ply : Effect s .ply (s.pullY s.xw)
  | plb (v : Byte) : Effect s .plb (State.setNZ { s.pulled with db := v } (v.setWidth 16) .byte)
  | pld (v : Word) : Effect s .pld (State.setNZ { s.pulled.pulled with d := v } v .word)
  | plp (v : Byte) : Effect s .plp (s.pulled.setP v)
  | rts : Effect s .rts s.returnShort
  | rtl : Effect s .rtl s.returnLong
  | rti : Effect s .rti s.trapReturn
  /-- `TXS`, `TCS`. -/
  | setS {i} (v : Word) (h : opcodeIn i [0x9A, 0x1B]) : Effect s i { s with sp := stackSet s.e s.sp v }
  | tcd : Effect s .tcd (State.setNZ { s with d := s.c } s.c .word)
  /-- `REP`, `SEP`. -/
  | setP {i} (v : Byte) (h : opcodeIn i [0xC2, 0xE2]) : Effect s i (s.setP v)
  | xce : Effect s .xce s.exchangeCE
  /-- `WAI`, `STP`. -/
  | halt {i} (r : RunState) (h : opcodeIn i [0xCB, 0xDB]) : Effect s i { s with run := r }
  /-- `MVN`, `MVP`. -/
  | blockMove {i} (dst src : Byte) (delta : Word) (h : opcodeIn i [0x54, 0x44]) :
      Effect s i (s.blockMove dst src delta)
  /-- `WDM` when `$42` is outside K. -/
  | report {i} (opPc : Word) (h : opcodeIn i [0x42]) : Effect s i (s.reportUnknown 0x42 opPc)

/-- A 16-bit push that no jump follows. -/
theorem effect_push16 {i : Instr} {s : State} (v : Word)
    (h : opcodeIn i [0x48, 0xDA, 0x5A, 0x0B, 0xF4, 0xD4, 0x62, 0x20, 0xFC]) : Effect s i (s.push16 v) :=
  .push16 v s.pc h

/-- A push of a width is an 8-bit or a 16-bit push. -/
theorem effect_pushData {i : Instr} {s : State} (w : Width) (v : Word) (h : opcodeIn i [0x48, 0xDA, 0x5A]) :
    Effect s i (s.pushData w v) := by
  cases w
  · exact .push8 (lowByte v) (opcodeIn_mono h)
  · exact effect_push16 v (opcodeIn_mono h)

/-- An `ADC` or `SBC` that answers a next state has added (R163, R164). -/
theorem effect_sum {i : Instr} {s t : State} {w : Width} {a m : Word} {bin : SumResult} {dec : Word × Bool}
    (hi : dataIn i [.adc, .sbc]) (h : s.sum w a m bin dec = .next t) : Effect s i t := by
  obtain ⟨-, hsum⟩ | ⟨-, -, hsum⟩ | ⟨-, -, hsum⟩ := sum_cases s w a m bin dec <;> rw [hsum] at h <;> cases h
  · exact .sum w bin s.freeCounter hi
  · exact .sum w _ _ hi

theorem effect_of_dataForm {i : Instr} {op : DataOp} {o : DataOperand} {s t : State}
    (hi : i.dataForm = some (op, o)) (h : exec i s = .next t) : Effect s i t := by
  rw [exec_dataForm s hi] at h
  cases op with
  | adc | sbc => exact effect_sum ⟨_, _, hi, by decide⟩ h
  | and | ora | eor | lda =>
    cases h
    exact .setC _ _ _ (.inl ⟨_, _, hi, by decide⟩)
  | cmp | cpx | cpy =>
    cases h
    exact .compare _ _ _ ⟨_, _, hi, by decide⟩
  | bit =>
    cases h
    exact .bit o hi
  | ldx =>
    cases h
    exact .loadX _ (.inl ⟨_, _, hi, by decide⟩)
  | ldy =>
    cases h
    exact .loadY _ (.inl ⟨_, _, hi, by decide⟩)

theorem effect_of_storeForm {i : Instr} {op : StoreOp} {mode : AddrMode} {s t : State}
    (hi : i.storeForm = some (op, mode)) (h : exec i s = .next t) : Effect s i t := by
  rw [exec_storeForm s hi] at h
  cases op <;> cases h <;> exact .store _ _ _ ⟨_, hi⟩

/-- The instruction belongs to a family with a form of its own. -/
def hasForm (i : Instr) : Bool :=
  i.dataForm.isSome || i.storeForm.isSome || i.rmwForm.isSome || i.testForm.isSome || i.branchForm.isSome ||
    i.flagForm.isSome

/-- The instructions without a form, each under its effect. -/
theorem effect_of_no_form {i : Instr} {s t : State} (hi : hasForm i = false) (h : exec i s = .next t) :
    Effect s i t := by
  cases i with
  | brk | cop => cases h; exact .trap _ (opcodeIn_of_encode rfl)
  | jmpAbs | jmpInd | jmpIndX | brl => cases h; exact .jump _ (.inr (opcodeIn_of_encode rfl))
  | nop => cases h; exact .jump s.pc (.inr (opcodeIn_of_encode rfl))
  | jmlLong | jmlIndLong => cases h; exact .jumpLong _ (opcodeIn_of_encode rfl)
  | jsrAbs | jsrIndX => cases h; exact .push16 _ _ (opcodeIn_of_encode rfl)
  | jsl target => cases h; exact .callLong target
  | rts => cases h; exact .rts
  | rtl => cases h; exact .rtl
  | rti => cases h; exact .rti
  | pha | phx | phy => cases h; exact effect_pushData _ _ (opcodeIn_of_encode rfl)
  | phb | phk | php => cases h; exact .push8 _ (opcodeIn_of_encode rfl)
  | phd | pea | pei | per => cases h; exact effect_push16 _ (opcodeIn_of_encode rfl)
  | pla => cases h; exact .pla
  | plx => cases h; exact .plx
  | ply => cases h; exact .ply
  | plb => cases h; exact .plb _
  | pld => cases h; exact .pld _
  | plp => cases h; exact .plp _
  | txs | tcs => cases h; exact .setS _ (opcodeIn_of_encode rfl)
  | tcd => cases h; exact .tcd
  | txa | tya | tdc | tsc | xba => cases h; exact .setC _ _ _ (.inr (opcodeIn_of_encode rfl))
  | tax | tyx | tsx | inx | dex => cases h; exact .loadX _ (.inr (opcodeIn_of_encode rfl))
  | tay | txy | iny | dey => cases h; exact .loadY _ (.inr (opcodeIn_of_encode rfl))
  | rep | sep => cases h; exact .setP _ (opcodeIn_of_encode rfl)
  | xce => cases h; exact .xce
  | wai | stp => cases h; exact .halt _ (opcodeIn_of_encode rfl)
  | mvn dst src => cases h; exact .blockMove dst src 1 (opcodeIn_of_encode rfl)
  | mvp dst src => cases h; exact .blockMove dst src (-1) (opcodeIn_of_encode rfl)
  | wdm operand =>
    have hop : opcodeIn (.wdm operand) [0x42] := by cases operand <;> exact opcodeIn_of_encode rfl
    cases h
    rw [State.reservedOpcode]
    split
    · exact .jump s.pc (.inr (opcodeIn_mono hop))
    · exact .report (s.pc - 1) hop
  | _ => cases hi

/-- Every instruction that answers a next state has its effect. -/
theorem effect_of_exec {i : Instr} {s t : State} (h : exec i s = .next t) : Effect s i t := by
  cases hdata : i.dataForm with
  | some => exact effect_of_dataForm hdata h
  | none =>
  cases hstore : i.storeForm with
  | some => exact effect_of_storeForm hstore h
  | none =>
  cases hrmw : i.rmwForm with
  | some =>
    rw [exec_rmwForm s hrmw] at h
    cases h
    exact .modify _ _ hrmw
  | none =>
  cases htest : i.testForm with
  | some =>
    rw [exec_testForm s htest] at h
    cases h
    exact .test _ _ ⟨_, htest⟩
  | none =>
  cases hbranch : i.branchForm with
  | some =>
    rw [exec_branchForm s hbranch] at h
    cases h
    exact .jump _ (.inl ⟨_, hbranch⟩)
  | none =>
  cases hflag : i.flagForm with
  | some =>
    rw [exec_flagForm s hflag] at h
    cases h
    exact .flag _ _ hflag
  | none =>
    have hform : hasForm i = false := by rw [hasForm, hdata, hstore, hrmw, htest, hbranch, hflag]; rfl
    exact effect_of_no_form hform h

end Sys2Proof.Claims
end

section
/-! PROOFS. Who writes what, read off each effect: the registers, `E`, `run` and memory (R25, R29), and the flags
(R27). -/

namespace Sys2Proof.Claims

open Sys2Proof.Machine

/-! What each composed operation changes. -/

theorem bit_frame (s : State) (o : DataOperand) : s.bit o = { s with p := (s.bit o).p } := by
  cases o <;> rfl

theorem pulledData_frame (s : State) (w : Width) : s.pulledData w = { s with sp := (s.pulledData w).sp } := by
  cases w <;> rfl

theorem pulledData_p (s : State) (w : Width) : (s.pulledData w).p = s.p := by
  rw [pulledData_frame]

theorem exchangeCE_frame (s : State) : s.exchangeCE =
    { s with
      e := s.exchangeCE.e
      p := s.exchangeCE.p
      x := s.exchangeCE.x
      y := s.exchangeCE.y
      sp := s.exchangeCE.sp } := by
  rw [State.exchangeCE]
  split <;> rfl

/-- `XCE` puts the carry in `E` (R345). -/
theorem exchangeCE_e (s : State) : s.exchangeCE.e = s.flag .c := by
  rw [State.exchangeCE]
  split <;> simp [*]

/-- `XCE` puts `E` in the carry, and a new `E` of 1 forces M and X (R345). -/
theorem exchangeCE_p (s : State) : s.exchangeCE.p =
    if s.flag .c then putFlag (putFlag (putFlag s.p .c s.e) .m true) .x true else putFlag s.p .c s.e := by
  rw [State.exchangeCE]
  split <;> rfl

/-! Registers, `E`, `run` and memory. -/

/-- Each register is as it was, unless the instruction is one of its writers (R25); a register that an effect does not
touch need not be named. -/
structure RegistersKept (i : Instr) (s t : State) : Prop where
  c : writesC i ∨ t.c = s.c := by exact .inr rfl
  x : writesX i ∨ t.x = s.x := by exact .inr rfl
  y : writesY i ∨ t.y = s.y := by exact .inr rfl
  sp : writesS i ∨ t.sp = s.sp := by exact .inr rfl
  d : opcodeIn i [0x5B, 0x2B] ∨ t.d = s.d := by exact .inr rfl
  db : opcodeIn i [0xAB, 0x54, 0x44] ∨ t.db = s.db := by exact .inr rfl
  pb : opcodeIn i [0x5C, 0xDC, 0x22, 0x6B, 0x40, 0x00, 0x02] ∨ t.pb = s.pb := by exact .inr rfl
  e : i = .xce ∨ t.e = s.e := by exact .inr rfl
  run : opcodeIn i [0xCB, 0xDB] ∨ t.run = s.run := by exact .inr rfl
  mem : writesMemory i ∨ t.mem = s.mem := by exact .inr rfl

theorem registersKept_of_effect {i : Instr} {s t : State} (h : Effect s i t) : RegistersKept i s t := by
  cases h with
  | sum w r n h => exact { c := .inl (.inl (dataIn_mono h)) }
  | setC c v w h =>
    exact { c := .inl (h.imp dataIn_mono (.inr ∘ opcodeIn_mono)) }
  | compare r m w h => exact {}
  | bit o h =>
    rw [bit_frame]
    exact {}
  | loadX v h =>
    exact { x := .inl (h.imp id opcodeIn_mono) }
  | loadY v h =>
    exact { y := .inl (h.imp id opcodeIn_mono) }
  | store ea w v h => exact { mem := .inl (.inl h) }
  | modify op target h =>
    cases target with
    | acc => exact { c := .inl (.inr (.inl ⟨op, h⟩)) }
    | mem mode => exact { mem := .inl (.inr (.inl ⟨op, mode, h⟩)) }
  | test f mode h => exact { mem := .inl (.inr (.inr (.inl h))) }
  | flag f b h => exact {}
  | jump target h => exact {}
  | jumpLong target h => exact { pb := .inl (opcodeIn_mono h) }
  | push8 v h =>
    exact { sp := .inl (opcodeIn_mono h), mem := .inl (.inr (.inr (.inr (opcodeIn_mono h)))) }
  | push16 v target h =>
    exact { sp := .inl (opcodeIn_mono h), mem := .inl (.inr (.inr (.inr (opcodeIn_mono h)))) }
  | callLong target =>
    exact { sp := .inl (opcodeIn_of_encode rfl), pb := .inl (opcodeIn_of_encode rfl),
            mem := .inl (.inr (.inr (.inr (opcodeIn_of_encode rfl)))) }
  | trap k h =>
    rw [trapEnter_frame]
    exact { sp := .inl (opcodeIn_mono h), pb := .inl (opcodeIn_mono h),
            mem := .inl (.inr (.inr (.inr (opcodeIn_mono h)))) }
  | pla =>
    rw [State.pullAcc, pulledData_frame]
    exact { c := .inl (.inr (.inr (opcodeIn_of_encode rfl))),
            sp := .inl (opcodeIn_of_encode rfl) }
  | plx =>
    rw [State.pullX, pulledData_frame]
    exact { x := .inl (.inr (opcodeIn_of_encode rfl)), sp := .inl (opcodeIn_of_encode rfl) }
  | ply =>
    rw [State.pullY, pulledData_frame]
    exact { y := .inl (.inr (opcodeIn_of_encode rfl)), sp := .inl (opcodeIn_of_encode rfl) }
  | plb v =>
    exact { db := .inl (opcodeIn_of_encode rfl), sp := .inl (opcodeIn_of_encode rfl) }
  | pld v =>
    exact { d := .inl (opcodeIn_of_encode rfl), sp := .inl (opcodeIn_of_encode rfl) }
  | plp v =>
    exact { x := .inl (.inr (opcodeIn_of_encode rfl)),
            y := .inl (.inr (opcodeIn_of_encode rfl)),
            sp := .inl (opcodeIn_of_encode rfl) }
  | rts => exact { sp := .inl (opcodeIn_of_encode rfl) }
  | rtl => exact { sp := .inl (opcodeIn_of_encode rfl), pb := .inl (opcodeIn_of_encode rfl) }
  | rti =>
    rw [trapReturn_frame]
    exact { x := .inl (.inr (opcodeIn_of_encode rfl)),
            y := .inl (.inr (opcodeIn_of_encode rfl)),
            sp := .inl (opcodeIn_of_encode rfl), pb := .inl (opcodeIn_of_encode rfl) }
  | setS v h => exact { sp := .inl (opcodeIn_mono h) }
  | tcd => exact { d := .inl (opcodeIn_of_encode rfl) }
  | setP v h =>
    exact { x := .inl (.inr (opcodeIn_mono h)), y := .inl (.inr (opcodeIn_mono h)) }
  | xce =>
    rw [exchangeCE_frame]
    exact { x := .inl (.inr (opcodeIn_of_encode rfl)),
            y := .inl (.inr (opcodeIn_of_encode rfl)),
            sp := .inl (opcodeIn_of_encode rfl), e := .inl rfl }
  | halt r h => exact { run := .inl h }
  | blockMove dst src delta h =>
    exact { c := .inl (.inr (.inr (opcodeIn_mono h))), x := .inl (.inr (opcodeIn_mono h)),
            y := .inl (.inr (opcodeIn_mono h)), db := .inl (opcodeIn_mono h),
            mem := .inl (.inr (.inr (.inr (opcodeIn_mono h)))) }
  | report opPc h => exact {}

/-- Settles O18: each effect names the registers it touches, and its instructions are among their writers. -/
theorem registerWriters : Obligations.RegisterWriters := by
  unfold Obligations.RegisterWriters
  intro i s t h
  have kept := registersKept_of_effect (effect_of_exec h)
  have he : ¬ opcodeIn i [0xFB] → t.e = s.e := fun hi =>
    kept.e.resolve_left fun hxce => hi (hxce ▸ opcodeIn_of_encode rfl)
  exact ⟨kept.c.resolve_left, kept.x.resolve_left, kept.y.resolve_left, kept.sp.resolve_left, kept.d.resolve_left,
    kept.db.resolve_left, kept.pb.resolve_left, he, kept.run.resolve_left, kept.mem.resolve_left⟩

/-- Settles O17: no effect but that of `XCE` touches `E`; trap entry and reset by what they leave. -/
theorem onlyExchangeWritesE : Obligations.OnlyExchangeWritesE := by
  unfold Obligations.OnlyExchangeWritesE
  refine ⟨fun i s t h hi => (registersKept_of_effect (effect_of_exec h)).e.resolve_left hi, fun s => ?_,
    fun k s => ?_, fun s draw => rfl, rfl⟩
  · have hcarry : s.exchangeCE.flag .c = s.e := by
      rw [State.flag, exchangeCE_p]
      split <;> simp
    exact ⟨s.exchangeCE, rfl, exchangeCE_e s, hcarry⟩
  · rw [trapEnter_frame]

/-! Flags. -/

theorem FlagsKept.mono {s t : State} {written written' : List Flag} (h : FlagsKept s t written)
    (hsub : written ⊆ written' := by decide) : FlagsKept s t written' :=
  fun f hf => h f fun hmem => hf (hsub hmem)

/-- A flag outside the list of those that an instruction writes is kept, and those in the list are its to write. -/
theorem writesFlag_or_kept {i : Instr} {s t : State} {written : List Flag} (hkept : FlagsKept s t written)
    (hwrites : ∀ f ∈ written, writesFlag i f) (f : Flag) : writesFlag i f ∨ t.flag f = s.flag f := by
  by_cases hf : f ∈ written
  · exact .inl (hwrites f hf)
  · exact .inr (hkept f hf)

theorem flagsKept_statusNZ {s t : State} {v : Word} {w : Width} (h : t.p = statusNZ s.p v w) :
    FlagsKept s t [.n, .z] := by
  intro f hf
  simp only [List.mem_cons, List.not_mem_nil, or_false, not_or] at hf
  simp [State.flag, h, statusFlag_statusNZ, hf]

theorem flagsKept_statusSum {s t : State} {w : Width} {r : SumResult} (h : t.p = statusSum s.p w r) :
    FlagsKept s t [.n, .z, .v, .c] := by
  intro f hf
  simp only [List.mem_cons, List.not_mem_nil, or_false, not_or] at hf
  simp [State.flag, h, statusFlag_statusSum, hf]

theorem flagsKept_compare (s : State) (r m : Word) (w : Width) : FlagsKept s (s.compare r m w) [.n, .z, .c] := by
  intro f hf
  simp only [List.mem_cons, List.not_mem_nil, or_false, not_or] at hf
  simp [State.flag, statusFlag_statusCompare_kept, hf]

/-- `BIT` on memory writes N, V and Z (R172). -/
theorem flagsKept_bit_mem (s : State) (mode : AddrMode) : FlagsKept s (s.bit (.mem mode)) [.n, .z, .v] := by
  intro f hf
  simp only [List.mem_cons, List.not_mem_nil, or_false, not_or] at hf
  simp [State.flag, State.bit, statusFlag_statusBit, hf]

/-- `BIT` on an immediate writes Z only (R172). -/
theorem flagsKept_bit_imm (s : State) (imm : Immediate) : FlagsKept s (s.bit (.imm imm)) [.z] := by
  intro f hf
  simp only [List.mem_singleton] at hf
  simp [State.flag, State.bit, statusFlag_statusTest, hf]

theorem flagsKept_testBits (s : State) (f : Word → Word → Word) (mode : AddrMode) :
    FlagsKept s (s.testBits f mode) [.z] := by
  intro g hg
  simp only [List.mem_singleton] at hg
  simp [State.flag, State.testBits, statusFlag_statusTest, hg]

theorem flagsKept_setFlag (s : State) (f : Flag) (b : Bool) : FlagsKept s (s.setFlag f b) [f] := by
  intro g hg
  simp only [List.mem_singleton] at hg
  simp [State.flag, hg]

/-- The shifts and rotates give a carry, `INC` and `DEC` none (R191 to R196). -/
theorem modifyFunction_carry {op : RmwOp} (h : op ∉ [RmwOp.asl, .lsr, .rol, .ror]) (w : Width) (cin : Bool)
    (v : Word) : (modifyFunction op w cin v).carry = none := by
  cases op with
  | inc | dec => rfl
  | _ => simp at h

/-- The status after a read-modify-write is that of its result (R190). -/
theorem modify_p (s : State) (f : Width → Bool → Word → ModifyResult) (target : RmwTarget) :
    ∃ v, (s.modify f target).p = statusModify s.p s.mw (f s.mw (s.flag .c) v) := by
  cases target <;> exact ⟨_, rfl⟩

/-- A shift or rotate writes N, Z and C; `INC` and `DEC` keep C (R190). -/
theorem flagsKept_modify (s : State) (op : RmwOp) (target : RmwTarget) :
    FlagsKept s (s.modify (modifyFunction op) target)
      (if op ∈ [RmwOp.asl, .lsr, .rol, .ror] then [.n, .z, .c] else [.n, .z]) := by
  intro f hf
  obtain ⟨v, hp⟩ := modify_p s (modifyFunction op) target
  rw [State.flag, hp, statusFlag_statusModify]
  split at hf
  · simp only [List.mem_cons, List.not_mem_nil, or_false, not_or] at hf
    simp [hf, State.flag]
  · rename_i hop
    simp only [List.mem_cons, List.not_mem_nil, or_false, not_or] at hf
    by_cases hc : f = .c <;> simp [hf, hc, modifyFunction_carry hop, State.flag]

theorem flagsKept_exchangeCE (s : State) : FlagsKept s s.exchangeCE [.c, .m, .x] := by
  intro f hf
  simp only [List.mem_cons, List.not_mem_nil, or_false, not_or] at hf
  rw [State.flag, exchangeCE_p]
  split <;> simp [State.flag, hf]

theorem writesFlag_of_flagForm {i : Instr} {f : Flag} {b : Bool} (h : i.flagForm = some (f, b)) : writesFlag i f := by
  cases i with
  | clc | sec | clv =>
    cases h
    exact .inr (.inr (opcodeIn_of_encode rfl))
  | cli | sei | cld | sed =>
    cases h
    exact opcodeIn_of_encode rfl
  | _ => cases h

/-- An instruction that writes N by its rule writes Z too. -/
theorem writesFlag_nz {i : Instr} (h : writesN i) : ∀ f ∈ [Flag.n, .z], writesFlag i f := by
  simp only [List.forall_mem_cons]
  exact ⟨h, .inl h, nofun⟩

/-- The instructions that write the whole status through `SetP` (R280). -/
theorem writesFlag_of_setP {i : Instr} (h : opcodeIn i [0x28, 0x40, 0xC2, 0xE2]) (f : Flag) : writesFlag i f := by
  have hn : writesN i := .inr (.inr (.inr (opcodeIn_mono h)))
  cases f with
  | n => exact hn
  | z => exact .inl hn
  | v | c => exact .inr (.inr (opcodeIn_mono h))
  | m | x | d | i => exact opcodeIn_mono h

/-- Each effect keeps the flags that its instructions do not write (R27). -/
theorem flagKept_of_effect {i : Instr} {s t : State} (h : Effect s i t) (f : Flag) :
    writesFlag i f ∨ t.flag f = s.flag f := by
  cases h with
  | sum w r n h =>
    have hn : writesN i := .inl (dataIn_mono h)
    refine writesFlag_or_kept (flagsKept_statusSum rfl) ?_ f
    simp only [List.forall_mem_cons]
    exact ⟨hn, .inl hn, .inl h, .inl (dataIn_mono h), nofun⟩
  | setC c v w h =>
    exact writesFlag_or_kept (flagsKept_statusNZ rfl)
      (writesFlag_nz (h.imp dataIn_mono (.inr ∘ .inr ∘ opcodeIn_mono))) f
  | compare r m w h =>
    have hn : writesN i := .inl (dataIn_mono h)
    refine writesFlag_or_kept (flagsKept_compare s r m w) ?_ f
    simp only [List.forall_mem_cons]
    exact ⟨hn, .inl hn, .inl (dataIn_mono h), nofun⟩
  | bit o h =>
    have hz : writesFlag i .z := .inr (.inl ⟨_, _, h, by decide⟩)
    cases o with
    | imm imm => exact writesFlag_or_kept (flagsKept_bit_imm s imm) (List.forall_mem_singleton.mpr hz) f
    | mem mode =>
      refine writesFlag_or_kept (flagsKept_bit_mem s mode) ?_ f
      simp only [List.forall_mem_cons]
      exact ⟨.inr (.inl ⟨mode, h⟩), hz, .inr (.inl ⟨mode, h⟩), nofun⟩
  | loadX v h | loadY v h =>
    exact writesFlag_or_kept (flagsKept_statusNZ rfl)
      (writesFlag_nz (h.imp dataIn_mono (.inr ∘ .inr ∘ opcodeIn_mono))) f
  | modify op target h =>
    have hn : writesN i := .inr (.inr (.inl ⟨_, h⟩))
    refine writesFlag_or_kept (flagsKept_modify s op target) ?_ f
    split
    · rename_i hop
      simp only [List.forall_mem_cons]
      exact ⟨hn, .inl hn, .inr (.inl ⟨op, target, h, hop⟩), nofun⟩
    · exact writesFlag_nz hn
  | test g mode h =>
    exact writesFlag_or_kept (flagsKept_testBits s g mode) (List.forall_mem_singleton.mpr (.inr (.inr h))) f
  | flag g b h =>
    exact writesFlag_or_kept (flagsKept_setFlag s g b) (List.forall_mem_singleton.mpr (writesFlag_of_flagForm h)) f
  | trap k h =>
    refine writesFlag_or_kept (trapTaken_trapEnter k s).flags ?_ f
    simp only [List.forall_mem_cons]
    exact ⟨opcodeIn_mono h, opcodeIn_mono h, nofun⟩
  | pla | plx | ply =>
    exact writesFlag_or_kept (flagsKept_statusNZ (congrArg (statusNZ · _ _) (pulledData_p s _)))
      (writesFlag_nz (.inr (.inr (.inr (opcodeIn_of_encode rfl))))) f
  | plb | pld | tcd =>
    exact writesFlag_or_kept (flagsKept_statusNZ rfl)
      (writesFlag_nz (.inr (.inr (.inr (opcodeIn_of_encode rfl))))) f
  | plp | rti => exact .inl (writesFlag_of_setP (opcodeIn_of_encode rfl) f)
  | setP v h => exact .inl (writesFlag_of_setP (opcodeIn_mono h) f)
  | xce =>
    refine writesFlag_or_kept (flagsKept_exchangeCE s) ?_ f
    simp only [List.forall_mem_cons]
    exact ⟨.inr (.inr (opcodeIn_of_encode rfl)), opcodeIn_of_encode rfl, opcodeIn_of_encode rfl, nofun⟩
  | store | jump | jumpLong | push8 | push16 | callLong | rts | rtl | setS | halt | blockMove | report =>
    exact .inr rfl

/-- Settles O19: each effect keeps every flag but those its instructions write. -/
theorem flagWriters : Obligations.FlagWriters := by
  unfold Obligations.FlagWriters
  intro i s t f h
  exact (flagKept_of_effect (effect_of_exec h) f).resolve_left

end Sys2Proof.Claims
end

section
/-! PROOFS. CPU reset: what it leaves, and that it meets the invariant (R36, R470). -/

namespace Sys2Proof.Claims

open Sys2Proof.Machine

/-- A byte in a word has the high byte zero. -/
theorem highByte_setWidth (v : Byte) : highByte (v.setWidth 16) = 0 := by
  apply BitVec.eq_of_toNat_eq
  have h := v.isLt
  rw [toNat_highByte, BitVec.toNat_setWidth]
  show v.toNat % 2 ^ 16 / 256 = 0
  omega

/-- The draw reaches N, V, Z and C only; the other flags are those of $34 (R36). -/
theorem cpuReset_flag (s : State) (draw : ResetDraw) {f : Flag} (hf : f ∉ [Flag.n, .v, .z, .c]) :
    (s.cpuReset draw).flag f = statusFlag 0x34 f := by
  simp only [List.mem_cons, List.not_mem_nil, or_false, not_or] at hf
  simp [State.flag, State.cpuReset, hf]

/-- CPU reset leaves what R36 and R470 say, whatever the draw of the values they leave open. -/
theorem cpuAfterReset_cpuReset (s : State) (draw : ResetDraw) : CpuAfterReset (s.cpuReset draw) where
  emulation := rfl
  flagM := cpuReset_flag s draw (by decide)
  flagX := cpuReset_flag s draw (by decide)
  flagI := cpuReset_flag s draw (by decide)
  flagD := cpuReset_flag s draw (by decide)
  highX := highByte_setWidth draw.xl
  highY := highByte_setWidth draw.yl
  stackPage := highByte_word16 draw.sl 0x01
  direct := rfl
  dataBank := rfl
  programBank := rfl
  running := rfl
  noNmi := rfl
  noReports := rfl
  vector := toNat_memWord0 (s.cpuReset draw) 0xFFFC

/-- The state after reset is one that CPU reset leaves: with `SL` = $FF and the other open values zero (log entry 4). -/
theorem reset_eq_cpuReset : State.reset = State.reset.cpuReset
    { c := 0, xl := 0, yl := 0, sl := 0xFF, n := false, v := false, z := false, carry := false } := rfl

theorem cpuAfterReset_reset : CpuAfterReset State.reset := by
  rw [reset_eq_cpuReset]
  exact cpuAfterReset_cpuReset _ _

/-- Settles O50: a host reset at the head of the queue is CPU reset, which writes CPU fields only. -/
theorem cpuResetValues : Obligations.CpuResetValues := by
  unfold Obligations.CpuResetValues
  refine ⟨fun s draw rest hq => ?_, cpuAfterReset_reset⟩
  exact ⟨_, step_of_hostAction hq nofun, cpuAfterReset_cpuReset _ draw, rfl, rfl, rfl, rfl, rfl, rfl⟩

/-- What CPU reset leaves meets the emulation-mode rules (R24, R28). -/
theorem CpuAfterReset.emulationInv {t : State} (h : CpuAfterReset t) : t.EmulationInv :=
  ⟨fun _ => h.stackPage, fun _ => h.flagM, fun _ => h.flagX⟩

theorem CpuAfterReset.indexInv {t : State} (h : CpuAfterReset t) : t.IndexInv :=
  ⟨fun _ => h.highX, fun _ => h.highY⟩

/-- Settles O15: the CPU is as reset leaves it, the memories and the ring are empty and the cursors 0. -/
theorem resetHasInvariant : Obligations.ResetHasInvariant := by
  unfold Obligations.ResetHasInvariant
  exact ⟨cpuAfterReset_reset.emulationInv, cpuAfterReset_reset.indexInv, ⟨rfl, rfl, rfl⟩, ⟨id, id, id⟩⟩

end Sys2Proof.Claims
end

section
/-! PROOFS. The step that executes the instruction at `PB:PC` (R94, R430, R431). -/

namespace Sys2Proof.Claims

open Sys2Proof.Machine

/-- The decoder's length is that of the instruction it answers (R94). -/
theorem decodeBytes_length (ctx : DecodeContext) (op b1 b2 b3 : Byte) :
    (decodeBytes ctx op b1 b2 b3).2 = (decodeBytes ctx op b1 b2 b3).1.length := by
  unfold decodeBytes
  split
  all_goals
    simp only [decodeRow0, decodeRow1, decodeRow2, decodeRow3, decodeRow4, decodeRow5, decodeRow6, decodeRow7,
      decodeRow8, decodeRow9, decodeRowA, decodeRowB, decodeRowC, decodeRowD, decodeRowE, decodeRowF, decodeImmediate,
      decodeReserved]
    repeat' split
  all_goals rfl

/-- An engine that runs, with no interrupt to take, runs the next instruction (R430). -/
theorem engineStep_of_running {s : State} (hr : s.run = .running) (hn : s.nmiPending = false)
    (hi : s.irqLine = false ∨ s.flag .i = true) : engineStep s = runInstruction s := by
  have hwake : s.wakeOnIrq = s := by
    rw [State.wakeOnIrq, if_neg (by simp [hr])]
  have hmasked : ¬ (s.irqLine && !s.flag .i) = true := by
    obtain hi | hi := hi <;> simp [hi]
  rw [engineStep, if_neg (by simp [hr]), if_neg (by simp [hn]), if_neg hmasked, hwake, if_neg (by simp [hr])]

/-- What the four bytes at `PB:PC` decode to is the next instruction. -/
theorem nextInstr_of_decode {s : State} {i : Instr} {rest : List Byte}
    (h : decode s.decodeContext [s.codeByte 0, s.codeByte 1, s.codeByte 2, s.codeByte 3] = .ok (i, rest)) :
    s.nextInstr = (i, i.length) := by
  have hi : s.nextInstr.1 = i := by
    rw [decode] at h
    split at h
    · exact (Prod.mk.inj (Except.ok.inj h)).1
    · cases h
  have hlen : s.nextInstr.2 = s.nextInstr.1.length := decodeBytes_length _ _ _ _ _
  rw [← hi, ← hlen]

/-- Settles O5: the branch of `Step()` that runs an instruction, on the instruction its bytes decode to. -/
theorem stepRunsTheDecodedInstruction : Obligations.StepRunsTheDecodedInstruction := by
  unfold Obligations.StepRunsTheDecodedInstruction
  intro s i rest ⟨hturn, hr, hn, hi⟩ hk hdec
  calc step s = engineStep (called s) := step_of_cpuTurn hturn
    _ = runInstruction (called s) := engineStep_of_running hr hn hi
    _ = exec s.nextInstr.1 { called s with pc := s.pc + BitVec.ofNat 16 s.nextInstr.2 } := runInstruction_of_knows hk
    _ = _ := by rw [nextInstr_of_decode hdec]

end Sys2Proof.Claims
end

section
/-! PROOFS. The coprocessor's part of the invariant: ARAM and the ring canonical, the cursors inside the ring, after
every `Cycle()` (R361, R416). -/

namespace Sys2Proof.Claims

open Sys2Proof.Machine

/-! The DSP's ring and cursors, which only `DspTick` and the host move. -/

/-- The ring and its two cursors are the same. -/
structure SameBuffer (d d' : Dsp) : Prop where
  ring : d'.ring = d.ring
  writeCursor : d'.writeCursor = d.writeCursor
  frameBoundary : d'.frameBoundary = d.frameBoundary

theorem SameBuffer.refl (d : Dsp) : SameBuffer d d := ⟨rfl, rfl, rfl⟩

theorem SameBuffer.trans {d d' d'' : Dsp} (h : SameBuffer d d') (h' : SameBuffer d' d'') : SameBuffer d d'' :=
  ⟨h'.ring.trans h.ring, h'.writeCursor.trans h.writeCursor, h'.frameBoundary.trans h.frameBoundary⟩

theorem sameBuffer_setChannel (d : Dsp) (v : Fin 8) (ch : Channel) : SameBuffer d (d.setChannel v ch) :=
  ⟨rfl, rfl, rfl⟩

/-- A register write touches registers, channels and ENDX only (R403). -/
theorem sameBuffer_write (aram : Memory) (d : Dsp) (a : BitVec 7) (val : Byte) : SameBuffer d (d.write aram a val) := by
  have hset : SameBuffer d (d.setReg a val) := ⟨rfl, rfl, rfl⟩
  unfold Dsp.write
  dsimp only
  split_ifs
  · exact forSetBits_keeps (Dsp.keyOn aram) _ (fun _ _ h => h.trans ⟨rfl, rfl, rfl⟩) _ _ hset
  · exact forSetBits_keeps Dsp.keyOff _ (fun _ _ h => h.trans (sameBuffer_setChannel _ _ _)) _ _ hset
  · exact forSetBits_keeps Dsp.softReset _ (fun _ _ h => h.trans (sameBuffer_setChannel _ _ _)) _ _ hset
  · exact hset
  · exact hset.trans ⟨rfl, rfl, rfl⟩
  · exact hset.trans (sameBuffer_setChannel _ _ _)

theorem sameBuffer_sourceStep (aram : Memory) (v : Fin 8) (d : Dsp) : SameBuffer d (d.sourceStep aram v) := by
  rw [Dsp.sourceStep_frame]
  exact ⟨rfl, rfl, rfl⟩

theorem sameBuffer_pitchStep (aram : Memory) (v : Fin 8) (d : Dsp) : SameBuffer d (d.pitchStep aram v) :=
  (applyTimes_keeps _ (SameBuffer d) (fun d' h => h.trans (sameBuffer_sourceStep aram v d')) _ d (.refl d)).trans
    (sameBuffer_setChannel _ _ _)

theorem sameBuffer_advanceChannel (aram : Memory) (v : Fin 8) (d : Dsp) :
    SameBuffer d (d.advanceChannel aram v) := by
  unfold Dsp.advanceChannel
  split
  · exact (sameBuffer_pitchStep aram v d).trans (sameBuffer_setChannel _ _ _)
  · exact .refl d

/-- A channel's turn in the mix leaves the ring and the cursors (R415). -/
theorem sameBuffer_mix_add (aram : Memory) (mix : Mix) (v : Fin 8) : SameBuffer mix.dsp (mix.add aram v).dsp :=
  (sameBuffer_advanceChannel aram v mix.dsp).trans ⟨rfl, rfl, rfl⟩

theorem sameBuffer_mix (aram : Memory) (l : List (Fin 8)) (mix : Mix) :
    SameBuffer mix.dsp (l.foldl (Mix.add aram) mix).dsp := by
  induction l generalizing mix with
  | nil => exact .refl _
  | cons v l ih => exact (sameBuffer_mix_add aram mix v).trans (ih _)

/-- Producing a sample leaves the ring and the cursors; the tick writes them (R415, R416). -/
theorem sameBuffer_produceSample (aram : Memory) (d : Dsp) : SameBuffer d (d.produceSample aram).1 := by
  unfold Dsp.produceSample
  generalize List.finRange 8 = l
  obtain ⟨ring, writeCursor, frameBoundary⟩ := sameBuffer_mix aram l ⟨d, 0, 0⟩
  exact ⟨ring, writeCursor, frameBoundary⟩

/-! The coprocessor. -/

/-- The coprocessor's part of the invariant. -/
structure ApuInv (cfg : Config) (a : Apu) : Prop where
  aram : Aram.wf a.aram = true
  ring : Ring.wf a.dsp.ring = true
  write : 0 < cfg.ringSize → a.dsp.writeCursor < cfg.ringSize
  boundary : 0 < cfg.ringSize → a.dsp.frameBoundary < cfg.ringSize

/-- A change outside ARAM, the ring and the cursors keeps the coprocessor's invariant. -/
theorem ApuInv.of_same {cfg : Config} {a b : Apu} (h : ApuInv cfg a) (haram : b.aram = a.aram)
    (hdsp : SameBuffer a.dsp b.dsp) : ApuInv cfg b where
  aram := by rw [haram]; exact h.aram
  ring := by rw [hdsp.ring]; exact h.ring
  write := by rw [hdsp.writeCursor]; exact h.write
  boundary := by rw [hdsp.frameBoundary]; exact h.boundary

/-- A write of ARAM or of the I/O page keeps the invariant (R363, R372). -/
theorem apuInv_write {cfg : Config} {a : Apu} (h : ApuInv cfg a) (x : Word) (v : Byte) :
    ApuInv cfg (a.write x v) := by
  have io : ∀ timers inPorts outPorts dspAddr, ApuInv cfg
      { a with timers := timers, inPorts := inPorts, outPorts := outPorts, dspAddr := dspAddr } :=
    fun _ _ _ _ => h.of_same rfl (.refl _)
  unfold Apu.write
  refine iteInduction (motive := ApuInv cfg) (fun _ => h) fun _ => ?_
  iterate 2 refine iteInduction (motive := ApuInv cfg) (fun _ => io _ _ _ _) fun _ => ?_
  refine iteInduction (motive := ApuInv cfg) (fun _ => ?_) fun _ => ?_
  · exact iteInduction (motive := ApuInv cfg) (fun _ => h.of_same rfl (sameBuffer_write _ _ _ _)) fun _ => h
  iterate 7 refine iteInduction (motive := ApuInv cfg) (fun _ => io _ _ _ _) fun _ => ?_
  refine iteInduction (motive := ApuInv cfg) (fun _ => h) fun _ => ?_
  obtain ⟨aram, ring, write, boundary⟩ := h
  exact ⟨wf_aramPutByte x v aram, ring, write, boundary⟩

/-- A read changes at most a timer (R363, R372). -/
theorem apuInv_read {cfg : Config} {a : Apu} (h : ApuInv cfg a) (x : Word) : ApuInv cfg (a.read x).2 := by
  have timer : ∀ t, ApuInv cfg (a.readTimerOut t).2 := fun _ => h.of_same rfl (.refl _)
  unfold Apu.read
  iterate 8 refine iteInduction (motive := fun r : Byte × Apu => ApuInv cfg r.2) (fun _ => h) fun _ => ?_
  iterate 3 refine iteInduction (motive := fun r : Byte × Apu => ApuInv cfg r.2) (fun _ => timer _) fun _ => ?_
  exact h

theorem apuInv_perform {cfg : Config} (action : Spc700Action) {a : Apu} (h : ApuInv cfg a) :
    ApuInv cfg (a.perform action) := by
  induction action generalizing a with
  | done regs => exact h.of_same rfl (.refl _)
  | read x next ih => exact ih _ (apuInv_read h x)
  | write x v next ih => exact ih (apuInv_write h x v)

theorem apuInv_spc700Exec {cfg : Config} {a : Apu} (h : ApuInv cfg a) : ApuInv cfg a.spc700Exec := by
  have hread := apuInv_read h a.regs.pc
  unfold Apu.spc700Exec
  dsimp only
  split
  · exact apuInv_perform _ (hread.of_same rfl (.refl _))
  · exact hread.of_same rfl (.refl _)

/-- A tick that produces a sample writes the ring and moves the write cursor on inside it (R416). -/
theorem apuInv_tickDsp {cfg : Config} {a : Apu} (h : ApuInv cfg a) : ApuInv cfg (a.tickDsp cfg) := by
  rw [Apu.tickDsp, Dsp.tick]
  dsimp only
  split
  · have hsame := sameBuffer_produceSample a.aram { a.dsp with stepCount := 0 }
    generalize Dsp.produceSample a.aram { a.dsp with stepCount := 0 } = produced at hsame ⊢
    obtain ⟨ring, -, boundary⟩ := hsame
    exact {
      aram := h.aram
      ring := wf_ringPut _ _ (by rw [ring]; exact h.ring)
      write := Nat.mod_lt _
      boundary := by rw [boundary]; exact h.boundary }
  · exact h.of_same rfl ⟨rfl, rfl, rfl⟩

/-- `Cycle()` keeps the invariant (R361). -/
theorem apuInv_cycle {cfg : Config} {a : Apu} (h : ApuInv cfg a) : ApuInv cfg (a.cycle cfg) :=
  apuInv_tickDsp ((apuInv_spc700Exec h).of_same rfl (.refl _))

end Sys2Proof.Claims
end

section
/-! PROOFS. Every step keeps the invariant (R23, R24, R28, R416): one lemma for what keeps the widths and the mode,
one each for `SetP`, `XCE` and `RTI`, which do not, and then the host's operations. -/

namespace Sys2Proof.Claims

open Sys2Proof.Machine

/-- What keeps the invariant while `E`, M and X stay as they are; what an operation does not touch need not be
named. -/
structure KeepsInv (s t : State) : Prop where
  widths : FlagsKept s t [.n, .v, .d, .i, .z, .c] := by exact fun _ _ => rfl
  mode : t.e = s.e := by exact rfl
  page : s.e = true → highByte t.sp = highByte s.sp := by exact fun _ => rfl
  highX : s.x8 = true → highByte s.x = 0 → highByte t.x = 0 := by exact fun _ h => h
  highY : s.x8 = true → highByte s.y = 0 → highByte t.y = 0 := by exact fun _ h => h
  memory : Memory.wf s.mem = true → Memory.wf t.mem = true := by exact id
  apu : t.apu = s.apu := by exact rfl
  cursor : t.readCursor = s.readCursor := by exact rfl
  config : t.config = s.config := by exact rfl

theorem KeepsInv.x8 {s t : State} (h : KeepsInv s t) : t.x8 = s.x8 := by
  rw [State.x8, State.x8, h.mode, h.widths .x (by decide)]

theorem KeepsInv.trans {s t u : State} (h : KeepsInv s t) (h' : KeepsInv t u) : KeepsInv s u where
  widths f hf := (h'.widths f hf).trans (h.widths f hf)
  mode := h'.mode.trans h.mode
  page he := (h'.page (h.mode.trans he)).trans (h.page he)
  highX hx hz := h'.highX (h.x8.trans hx) (h.highX hx hz)
  highY hx hz := h'.highY (h.x8.trans hx) (h.highY hx hz)
  memory := h'.memory ∘ h.memory
  apu := h'.apu.trans h.apu
  cursor := h'.cursor.trans h.cursor
  config := h'.config.trans h.config

/-- The invariant from its part on the CPU's registers, when the coprocessor and the host's fields are the same. -/
theorem inv_of_registers {s t : State} (h : s.Inv) (emulation : t.EmulationInv) (index : t.IndexInv)
    (memory : Memory.wf s.mem = true → Memory.wf t.mem = true := by exact id) (apu : t.apu = s.apu := by exact rfl)
    (cursor : t.readCursor = s.readCursor := by exact rfl) (config : t.config = s.config := by exact rfl) : t.Inv := by
  obtain ⟨-, -, ⟨mem, aram, ring⟩, ⟨write, boundary, read⟩⟩ := h
  rw [← apu] at aram ring
  rw [← config, ← apu] at write boundary
  rw [← config, ← cursor] at read
  exact ⟨emulation, index, ⟨memory mem, aram, ring⟩, ⟨write, boundary, read⟩⟩

theorem KeepsInv.inv {s t : State} (k : KeepsInv s t) (h : s.Inv) : t.Inv := by
  have emulation : t.EmulationInv := by
    constructor <;> rw [k.mode]
    · exact fun he => (k.page he).trans (h.emulation.stackPage he)
    · exact fun he => (k.widths .m (by decide)).trans (h.emulation.widthM he)
    · exact fun he => (k.widths .x (by decide)).trans (h.emulation.widthX he)
  have index : t.IndexInv := by
    constructor <;> rw [k.x8]
    · exact fun hx => k.highX hx (h.index.highX hx)
    · exact fun hx => k.highY hx (h.index.highY hx)
  exact inv_of_registers h emulation index k.memory k.apu k.cursor k.config

/-! The operations. -/

/-- In emulation mode the stack pointer's page never moves (R24, R260). -/
theorem highByte_stackMove {e : Bool} (he : e = true) (sp u : Word) : highByte (stackMove e sp u) = highByte sp := by
  rw [he, highByte_stackMove_emulation]

/-- In emulation mode `TXS` and `TCS` write `SL` only (R304, R307). -/
theorem highByte_stackSet {e : Bool} (he : e = true) (sp v : Word) : highByte (stackSet e sp v) = highByte sp := by
  rw [he]
  exact highByte_word16 _ _

/-- A value in an 8-bit index width has no high byte (R23). -/
theorem highByte_trunc_xw {s : State} (hx : s.x8 = true) (v : Word) : highByte (trunc s.xw v) = 0 := by
  rw [State.xw, (widthOf_eq_byte _).mpr hx, highByte_trunc_byte]

theorem keepsInv_push8 (s : State) (v : Byte) : KeepsInv s (s.push8 v) where
  page he := highByte_stackMove he _ _
  memory := wf_memPutByte _ _

theorem keepsInv_push16 (s : State) (v : Word) : KeepsInv s (s.push16 v) :=
  (keepsInv_push8 s _).trans (keepsInv_push8 _ _)

theorem keepsInv_pulled (s : State) : KeepsInv s s.pulled where
  page he := highByte_stackMove he _ _

theorem keepsInv_pulled_pulled (s : State) : KeepsInv s s.pulled.pulled :=
  (keepsInv_pulled s).trans (keepsInv_pulled _)

theorem keepsInv_pulledData (s : State) (w : Width) : KeepsInv s (s.pulledData w) := by
  cases w
  · exact keepsInv_pulled s
  · exact keepsInv_pulled_pulled s

theorem keepsInv_setNZ (s : State) (v : Word) (w : Width) : KeepsInv s (s.setNZ v w) where
  widths := (flagsKept_statusNZ rfl).mono

theorem keepsInv_loadX (s : State) (v : Word) : KeepsInv s (s.loadX v) where
  widths := (flagsKept_statusNZ rfl).mono
  highX hx _ := highByte_trunc_xw hx v

theorem keepsInv_loadY (s : State) (v : Word) : KeepsInv s (s.loadY v) where
  widths := (flagsKept_statusNZ rfl).mono
  highY hx _ := highByte_trunc_xw hx v

theorem keepsInv_pullX (s : State) : KeepsInv s (s.pullX s.xw) :=
  have pulled := keepsInv_pulledData s s.xw
  pulled.trans {
    widths := (flagsKept_statusNZ rfl).mono
    highX := fun hx _ => highByte_trunc_xw (pulled.x8.symm.trans hx) _ }

theorem keepsInv_pullY (s : State) : KeepsInv s (s.pullY s.xw) :=
  have pulled := keepsInv_pulledData s s.xw
  pulled.trans {
    widths := (flagsKept_statusNZ rfl).mono
    highY := fun hx _ => highByte_trunc_xw (pulled.x8.symm.trans hx) _ }

theorem keepsInv_modify (s : State) (op : RmwOp) (target : RmwTarget) :
    KeepsInv s (s.modify (modifyFunction op) target) := by
  have widths : FlagsKept s (s.modify (modifyFunction op) target) [.n, .v, .d, .i, .z, .c] := by
    have h := flagsKept_modify s op target
    split at h <;> exact h.mono
  cases target with
  | acc => exact { widths }
  | mem mode => exact { widths, memory := wf_memPutData _ _ _ }

theorem keepsInv_trapPushes (s : State) (k : Trap) : KeepsInv s (s.trapPushes k) := by
  unfold State.trapPushes
  split
  · exact (keepsInv_push16 s _).trans (keepsInv_push8 _ _)
  · exact ((keepsInv_push8 s _).trans (keepsInv_push16 _ _)).trans (keepsInv_push8 _ _)

theorem keepsInv_trapEnter (s : State) (k : Trap) : KeepsInv s (s.trapEnter k) := by
  have pushes := keepsInv_trapPushes s k
  unfold State.trapEnter
  generalize s.trapPushes k = t at pushes ⊢
  refine pushes.trans { widths := fun f hf => ?_ }
  simp only [List.mem_cons, List.not_mem_nil, or_false, not_or] at hf
  simp [State.flag, hf]

theorem keepsInv_jumpLong (s : State) (target : Addr) : KeepsInv s (s.jumpLong target) := {}

/-- `SetP` keeps M and X at 1 in emulation mode, and clears the index high bytes when X is 1 (R280). -/
theorem inv_setP {s : State} (h : s.Inv) (v : Byte) : (s.setP v).Inv := by
  have hx : (s.setP v).x8 = true → (s.setP v).flag .x = true := by
    intro hx8
    obtain he | hf := Bool.or_eq_true_iff.mp hx8
    · exact (setP_widths s v he).2
    · exact hf
  exact inv_of_registers h
    ⟨h.emulation.stackPage, fun he => (setP_widths s v he).1, fun he => (setP_widths s v he).2⟩
    ⟨fun hx8 => by rw [setP_x, if_pos (hx hx8), highByte_trunc_byte],
      fun hx8 => by rw [setP_y, if_pos (hx hx8), highByte_trunc_byte]⟩

/-- `XCE` into emulation mode forces what that mode keeps; out of it, M and X stay as they were (R345). -/
theorem inv_exchangeCE {s : State} (h : s.Inv) : s.exchangeCE.Inv := by
  unfold State.exchangeCE
  dsimp only
  split
  · exact inv_of_registers h
      ⟨fun _ => highByte_word16 _ _, fun _ => by simp [State.flag], fun _ => by simp [State.flag]⟩
      ⟨fun _ => highByte_trunc_byte _, fun _ => highByte_trunc_byte _⟩
  · have hx : statusFlag (putFlag s.p .c s.e) .x = true → s.x8 = true := fun hx =>
      Bool.or_eq_true_iff.mpr (.inr (by simpa [State.flag] using hx))
    exact inv_of_registers h ⟨nofun, nofun, nofun⟩ ⟨h.index.highX ∘ hx, h.index.highY ∘ hx⟩

/-- `RTI` is `SetP` with pulls before and after it (R237). -/
theorem inv_trapReturn {s : State} (h : s.Inv) : s.trapReturn.Inv := by
  have hp : (s.pulled.setP s.pull8).Inv := inv_setP ((keepsInv_pulled s).inv h) _
  unfold State.trapReturn
  generalize s.pulled.setP s.pull8 = t at hp ⊢
  have hpc : { t.pulled.pulled with pc := t.pull16 }.Inv := ((keepsInv_pulled_pulled t).trans {}).inv hp
  dsimp only
  split
  · exact hpc
  · exact ((keepsInv_pulled _).trans {}).inv hpc

/-- The single-flag instructions write neither M nor X (R330 to R336). -/
theorem flag_of_flagForm {i : Instr} {f : Flag} {b : Bool} (h : i.flagForm = some (f, b)) :
    f ∈ [Flag.n, .v, .d, .i, .z, .c] := by
  cases i with
  | clc | sec | cli | sei | clv | cld | sed =>
    cases h
    decide
  | _ => cases h

/-! The CPU. -/

/-- Each effect of an instruction keeps the invariant. -/
theorem inv_of_effect {i : Instr} {s t : State} (h : s.Inv) (hi : Effect s i t) : t.Inv := by
  cases hi with
  | sum w r n _ => exact KeepsInv.inv { widths := (flagsKept_statusSum rfl).mono } h
  | setC c v w _ => exact (keepsInv_setNZ _ v w).inv (KeepsInv.inv {} h)
  | compare r m w _ => exact KeepsInv.inv { widths := (flagsKept_compare s r m w).mono } h
  | bit o _ =>
    cases o with
    | imm imm => exact KeepsInv.inv { widths := (flagsKept_bit_imm s imm).mono } h
    | mem mode => exact KeepsInv.inv { widths := (flagsKept_bit_mem s mode).mono } h
  | loadX v _ => exact (keepsInv_loadX s v).inv h
  | loadY v _ => exact (keepsInv_loadY s v).inv h
  | store ea w v _ => exact KeepsInv.inv { memory := wf_memPutData ea w v } h
  | modify op target _ => exact (keepsInv_modify s op target).inv h
  | test f mode _ =>
    exact KeepsInv.inv { widths := (flagsKept_testBits s f mode).mono, memory := wf_memPutData _ _ _ } h
  | flag f b hi =>
    have hf : [f] ⊆ [.n, .v, .d, .i, .z, .c] := List.cons_subset.mpr ⟨flag_of_flagForm hi, nofun⟩
    exact KeepsInv.inv { widths := (flagsKept_setFlag s f b).mono hf } h
  | push8 v _ => exact (keepsInv_push8 s v).inv h
  | push16 v target _ => exact ((keepsInv_push16 s v).trans {}).inv h
  | callLong target =>
    have pushes := (keepsInv_push8 s s.pb).trans (keepsInv_push16 _ (s.pc - 1))
    exact (pushes.trans (keepsInv_jumpLong _ target)).inv h
  | trap k _ => exact (keepsInv_trapEnter s k).inv h
  | pla => exact ((keepsInv_pulledData s _).trans { widths := (flagsKept_statusNZ rfl).mono }).inv h
  | plx => exact (keepsInv_pullX s).inv h
  | ply => exact (keepsInv_pullY s).inv h
  | plb v => exact ((keepsInv_pulled s).trans { widths := (flagsKept_statusNZ rfl).mono }).inv h
  | pld v => exact ((keepsInv_pulled_pulled s).trans { widths := (flagsKept_statusNZ rfl).mono }).inv h
  | plp v => exact inv_setP ((keepsInv_pulled s).inv h) v
  | rts => exact ((keepsInv_pulled_pulled s).trans {}).inv h
  | rtl => exact (((keepsInv_pulled_pulled s).trans (keepsInv_pulled _)).trans {}).inv h
  | rti => exact inv_trapReturn h
  | setS v _ => exact KeepsInv.inv { page := fun he => highByte_stackSet he _ v } h
  | tcd => exact (keepsInv_setNZ _ _ _).inv (KeepsInv.inv {} h)
  | setP v _ => exact inv_setP h v
  | xce => exact inv_exchangeCE h
  | blockMove dst src delta _ =>
    exact KeepsInv.inv { highX := fun hx _ => highByte_trunc_xw hx _, highY := fun hx _ => highByte_trunc_xw hx _,
                         memory := wf_memPutByte _ _ } h
  | jump | jumpLong | halt | report => exact KeepsInv.inv {} h

theorem inv_exec {i : Instr} {s t : State} (h : s.Inv) (ht : exec i s = .next t) : t.Inv :=
  inv_of_effect h (effect_of_exec ht)

theorem inv_runInstruction {s t : State} (h : s.Inv) (ht : runInstruction s = .next t) : t.Inv := by
  unfold runInstruction at ht
  split at ht
  · exact inv_exec (KeepsInv.inv {} h) ht
  · cases ht
    exact KeepsInv.inv {} h

/-- `Step()` keeps the invariant, on each of its branches (R430). -/
theorem inv_engineStep {s t : State} (h : s.Inv) (ht : engineStep s = .next t) : t.Inv := by
  have hwake : s.wakeOnIrq.Inv := KeepsInv.inv {} h
  unfold engineStep at ht
  split at ht
  · cases ht
    exact h
  split at ht
  · cases ht
    exact (keepsInv_trapEnter _ _).inv (KeepsInv.inv {} h)
  split at ht
  · cases ht
    exact (keepsInv_trapEnter _ _).inv hwake
  split at ht
  · cases ht
    exact h
  · exact inv_runInstruction hwake ht

/-! The host. -/

theorem apuInv_of_inv {s : State} (h : s.Inv) : ApuInv s.config s.apu :=
  ⟨h.memory.aram, h.memory.ring, h.ring.write, h.ring.boundary⟩

/-- A coprocessor that meets its part of the invariant, put in place of the old one. -/
theorem inv_withApu {s : State} (h : s.Inv) {a : Apu} (ha : ApuInv s.config a) : { s with apu := a }.Inv where
  emulation := ⟨h.emulation.stackPage, h.emulation.widthM, h.emulation.widthX⟩
  index := ⟨h.index.highX, h.index.highY⟩
  memory := ⟨h.memory.mem, ha.aram, ha.ring⟩
  ring := ⟨ha.write, ha.boundary, h.ring.read⟩

/-- The host's cursor moved to a place inside the ring. -/
theorem inv_withCursor {s : State} (h : s.Inv) {n : Nat} (hn : 0 < s.config.ringSize → n < s.config.ringSize) :
    { s with readCursor := n }.Inv where
  emulation := ⟨h.emulation.stackPage, h.emulation.widthM, h.emulation.widthX⟩
  index := ⟨h.index.highX, h.index.highY⟩
  memory := ⟨h.memory.mem, h.memory.aram, h.memory.ring⟩
  ring := ⟨h.ring.write, h.ring.boundary, hn⟩

/-- Each host operation keeps the invariant (R466). -/
theorem inv_hostEffect {s : State} (h : s.Inv) (a : HostAction) : (hostEffect a s).Inv := by
  have ha := apuInv_of_inv h
  cases a with
  | step => exact h
  | reset draw =>
    have hreset := cpuAfterReset_cpuReset s draw
    exact inv_of_registers h hreset.emulationInv hreset.indexInv
  | setIrq level => exact KeepsInv.inv {} h
  | pulseNmi => exact KeepsInv.inv {} h
  | loadMemory addr bytes => exact KeepsInv.inv { memory := wf_memPutBytes bytes addr } h
  | apuReset ring => exact inv_withApu h ⟨ha.aram, wf_ringOf ring, id, id⟩
  | cycle => exact inv_withApu h (apuInv_cycle ha)
  | runCycles n => exact inv_withApu h (applyTimes_keeps _ _ (fun _ => apuInv_cycle) n _ ha)
  | writeInPort i v => exact inv_withApu h (ha.of_same rfl (.refl _))
  | upload src => exact inv_withApu h ⟨wf_upload src ha.aram, ha.ring, ha.write, ha.boundary⟩
  | setApuPc pc => exact inv_withApu h (ha.of_same rfl (.refl _))
  | resetSampleBuffer =>
    have hbuffer : ApuInv s.config { s.apu with dsp := s.apu.dsp.resetSampleBuffer } := ⟨ha.aram, rfl, id, id⟩
    exact inv_withCursor (inv_withApu h hbuffer) id
  | newFrame => exact inv_withApu h ⟨ha.aram, ha.ring, ha.write, ha.write⟩
  | drainSamples => exact inv_withCursor h ha.boundary

/-- A step is the CPU's `Step()` or a host operation taken off the queue (R466; log entry 13). -/
theorem step_cases (s : State) : step s = engineStep (called s) ∨
    ∃ a rest, s.hostQueue = a :: rest ∧ a ≠ .step ∧ step s = .next (hostEffect a { s with hostQueue := rest }) := by
  cases hq : s.hostQueue with
  | nil => exact .inl (step_of_cpuTurn (.inl hq))
  | cons a rest =>
    by_cases ha : a = .step
    · exact .inl (step_of_cpuTurn (.inr (by rw [hq, ha, List.head?_cons])))
    · exact .inr ⟨a, rest, rfl, ha, step_of_hostAction hq ha⟩

/-- Settles O14: a step is `Step()` or a host operation, and each keeps the invariant. -/
theorem stepKeepsInvariant : Obligations.StepKeepsInvariant := by
  unfold Obligations.StepKeepsInvariant
  intro s t h ht
  obtain hstep | ⟨a, rest, -, -, hstep⟩ := step_cases s
  · rw [hstep] at ht
    exact inv_engineStep (KeepsInv.inv {} h) ht
  · rw [hstep] at ht
    cases ht
    exact inv_hostEffect (KeepsInv.inv {} h) a

end Sys2Proof.Claims
end

section
/-! PROOFS. The CPU and the coprocessor are apart: a CPU step neither reads nor writes the coprocessor (R75, R454),
and the mailbox carries bytes each way (R381, R382, R383). -/

namespace Sys2Proof.Claims

open Sys2Proof.Machine

/-! The CPU beside another coprocessor. An operation that writes one record says so by itself: none of the record's
CPU fields mentions the coprocessor. The lemmas are for the operations that branch, and for the pushes under them. -/

theorem push8_withApu (s : State) (a : Apu) (v : Byte) :
    { s with apu := a }.push8 v = { s.push8 v with apu := a } := rfl

theorem push16_withApu (s : State) (a : Apu) (v : Word) :
    { s with apu := a }.push16 v = { s.push16 v with apu := a } := rfl

/-- The choice between binary and decimal arithmetic looks at the flags and the configuration only. -/
theorem sum_withApu (s : State) (a : Apu) (w : Width) (u m : Word) (bin : SumResult) (dec : Word × Bool) :
    { s with apu := a }.sum w u m bin dec = withApu a (s.sum w u m bin dec) := by
  unfold State.sum
  simp only [apply_ite (withApu a)]
  rfl

theorem next_pushData_withApu (s : State) (a : Apu) (w : Width) (v : Word) :
    (.next ({ s with apu := a }.pushData w v) : Result) = withApu a (.next (s.pushData w v)) := by
  cases w <;> rfl

/-- The pulls of a width, into each of their registers. -/
theorem next_pull_withApu (s : State) (a : Apu) (w : Width) :
    (.next ({ s with apu := a }.pullAcc w) : Result) = withApu a (.next (s.pullAcc w)) ∧
    (.next ({ s with apu := a }.pullX w) : Result) = withApu a (.next (s.pullX w)) ∧
    (.next ({ s with apu := a }.pullY w) : Result) = withApu a (.next (s.pullY w)) := by
  cases w <;> exact ⟨rfl, rfl, rfl⟩

theorem next_callLong_withApu (s : State) (a : Apu) (target : Addr) :
    (.next ({ s with apu := a }.callLong target) : Result) = withApu a (.next (s.callLong target)) := by
  rw [State.callLong, push8_withApu, push16_withApu]
  rfl

/-- A trap's pushes look at `E` for whether `PB` is one of them. -/
theorem trapPushes_withApu (s : State) (a : Apu) (k : Trap) :
    { s with apu := a }.trapPushes k = { s.trapPushes k with apu := a } := by
  have hbank : (if s.e then { s with apu := a } else { s with apu := a }.push8 s.pb) =
      { (if s.e then s else s.push8 s.pb) with apu := a } := by
    split <;> rfl
  unfold State.trapPushes
  dsimp only
  rw [hbank, push16_withApu, push8_withApu]

theorem next_trapEnter_withApu (s : State) (a : Apu) (k : Trap) :
    (.next ({ s with apu := a }.trapEnter k) : Result) = withApu a (.next (s.trapEnter k)) := by
  unfold State.trapEnter
  rw [trapPushes_withApu]
  generalize s.trapPushes k = t
  rfl

/-- The return from a trap looks at `E` for whether to pull `PB`. -/
theorem next_trapReturn_withApu (s : State) (a : Apu) :
    (.next { s with apu := a }.trapReturn : Result) = withApu a (.next s.trapReturn) := by
  cases he : s.e <;> simp [State.trapReturn, State.setP, State.pulled, State.pull8, State.pull16, withApu, he]

theorem next_exchangeCE_withApu (s : State) (a : Apu) :
    (.next { s with apu := a }.exchangeCE : Result) = withApu a (.next s.exchangeCE) := by
  unfold State.exchangeCE State.flag
  cases statusFlag s.p .c <;> rfl

theorem next_reservedOpcode_withApu (s : State) (a : Apu) :
    (.next { s with apu := a }.reservedOpcode : Result) = withApu a (.next s.reservedOpcode) := by
  unfold State.reservedOpcode
  cases s.config.knows 0x42 <;> rfl

/-- No instruction reads or writes the coprocessor (R75). -/
theorem exec_withApu (i : Instr) (s : State) (a : Apu) : exec i { s with apu := a } = withApu a (exec i s) := by
  cases i with
  | adcDpIndX | adcSr | adcDp | adcDpIndLong | adcImm | adcAbs | adcLong | adcDpIndY | adcDpInd | adcSrIndY | adcDpX
  | adcDpIndLongY | adcAbsY | adcAbsX | adcLongX | sbcDpIndX | sbcSr | sbcDp | sbcDpIndLong | sbcImm | sbcAbs | sbcLong
  | sbcDpIndY | sbcDpInd | sbcSrIndY | sbcDpX | sbcDpIndLongY | sbcAbsY | sbcAbsX | sbcLongX =>
    exact sum_withApu s a _ _ _ _ _
  | pha | phx | phy => exact next_pushData_withApu s a _ _
  | pla =>
    obtain ⟨hacc, -, -⟩ := next_pull_withApu s a s.mw
    exact hacc
  | plx =>
    obtain ⟨-, hx, -⟩ := next_pull_withApu s a s.xw
    exact hx
  | ply =>
    obtain ⟨-, -, hy⟩ := next_pull_withApu s a s.xw
    exact hy
  | jsl target => exact next_callLong_withApu s a target
  | brk | cop => exact next_trapEnter_withApu s a _
  | rti => exact next_trapReturn_withApu s a
  | xce => exact next_exchangeCE_withApu s a
  | wdm => exact next_reservedOpcode_withApu s a
  | _ => rfl

theorem runInstruction_withApu (s : State) (a : Apu) :
    runInstruction { s with apu := a } = withApu a (runInstruction s) := by
  unfold runInstruction
  rw [apply_ite (withApu a), ← exec_withApu]
  rfl

/-- `Step()` takes the same branch whatever the coprocessor is (R430, R454). -/
theorem engineStep_withApu (s : State) (a : Apu) : engineStep { s with apu := a } = withApu a (engineStep s) := by
  unfold engineStep
  simp only [apply_ite (withApu a), ← runInstruction_withApu, ← next_trapEnter_withApu]
  rfl

/-! The mailbox. -/

/-- The coprocessor's read of port `i` gives `in_ports[i]` and has no side effect (R382). -/
theorem apuRead_port (a : Apu) (i : Fin 4) : a.read (0xF4 + BitVec.ofNat 16 i.val) = (a.inPorts[i], a) := by
  fin_cases i <;> rfl

/-- The coprocessor's write of port `i` is a write of `out_ports[i]` (R381). -/
theorem apuWrite_port (a : Apu) (i : Fin 4) (v : Byte) :
    a.write (0xF4 + BitVec.ofNat 16 i.val) v = a.setOutPort i v := by
  fin_cases i <;> rfl

/-- Settles O54: the CPU's step commutes with replacing the coprocessor; `Cycle()` and the host's port write are
their effects; a port is one byte of its own direction's vector. -/
theorem cpuAndApuAreSeparate : Obligations.CpuAndApuAreSeparate := by
  unfold Obligations.CpuAndApuAreSeparate
  refine ⟨fun s a hturn => ?_, fun s rest hq => ⟨_, step_of_hostAction hq nofun, rfl⟩,
    fun s i v rest hq => ⟨_, step_of_hostAction hq nofun, ?_, fun j hj => ?_, fun _ => rfl, rfl⟩, fun s i v => ?_⟩
  · have hturn' : CpuTurn { s with apu := a } := hturn
    rw [step_of_cpuTurn hturn, step_of_cpuTurn hturn']
    exact engineStep_withApu (called s) a
  · show (s.apu.setInPort i v).read _ = (v, s.apu.setInPort i v)
    rw [apuRead_port, Apu.inPorts_setInPort, if_pos rfl]
  · exact (Apu.inPorts_setInPort s.apu i j v).trans (if_neg hj)
  · rw [apuWrite_port]
    refine ⟨(Apu.outPorts_setOutPort s.apu i i v).trans (if_pos rfl), fun j hj => ?_, rfl⟩
    exact (Apu.outPorts_setOutPort s.apu i j v).trans (if_neg hj)

end Sys2Proof.Claims
end

section
/-! PROOFS. The decoder and the encoder are inverse to each other, and what an instruction's length depends on (R90 to
R95). The layout of the operand bytes of each opcode is said once (`layout_of_opcode`); the statements read it off. -/

namespace Sys2Proof.Claims

open Sys2Proof.Machine
open Sys2Proof.Laws.DecodesOwnBytes (Statement byteOf)

/-! The layouts of R91, by the number and the meaning of the operand bytes. -/

/-- What the decoder makes of an opcode byte, and that the encoder writes the bytes it was made of (R91, R93, R96). -/
inductive Layout (op : Byte) : Prop
  /-- `n` operand bytes, in every context. -/
  | fixed (n : Nat) (f : Byte → Byte → Byte → Instr)
      (decodes : ∀ ctx b1 b2 b3, decodeBytes ctx op b1 b2 b3 = (f b1 b2 b3, n + 1))
      (encodes : ∀ b1 b2 b3, encode (f b1 b2 b3) = op :: [b1, b2, b3].take n)
      (wellFormed : ∀ ctx b1 b2 b3, (f b1 b2 b3).wellFormed ctx = true)
  /-- `IMM_M`. -/
  | immM {mk : Immediate → Instr} (mem : op ∈ immMOpcodes := by decide)
      (decodes : ∀ ctx b1 b2 b3, decodeBytes ctx op b1 b2 b3 = decodeImmediate ctx.m8 mk b1 b2 := by intros; rfl)
      (encodes : ∀ imm, encode (mk imm) = op :: immediateBytes imm := by intros; rfl)
      (wellFormed : ∀ ctx imm, (mk imm).wellFormed ctx = imm.fits ctx.m8 := by intros; rfl)
  /-- `IMM_X`. -/
  | immX {mk : Immediate → Instr} (mem : op ∈ immXOpcodes := by decide)
      (decodes : ∀ ctx b1 b2 b3, decodeBytes ctx op b1 b2 b3 = decodeImmediate ctx.x8 mk b1 b2 := by intros; rfl)
      (encodes : ∀ imm, encode (mk imm) = op :: immediateBytes imm := by intros; rfl)
      (wellFormed : ∀ ctx imm, (mk imm).wellFormed ctx = imm.fits ctx.x8 := by intros; rfl)
  /-- `$42`. -/
  | reserved (eq : op = 0x42 := by rfl)

/-! The layouts with a given number of operand bytes. An opcode byte written out decides each premise by evaluation. -/

/-- No operand byte (`IMP`, `ACC`). -/
theorem Layout.bare {op : Byte} {i : Instr}
    (hd : ∀ ctx b1 b2 b3, decodeBytes ctx op b1 b2 b3 = (i, 1) := by intros; rfl)
    (he : encode i = [op] := by rfl) (hw : ∀ ctx, i.wellFormed ctx = true := by intros; rfl) : Layout op :=
  .fixed 0 (fun _ _ _ => i) hd (fun _ _ _ => he) (fun ctx _ _ _ => hw ctx)

/-- One operand byte (`IMM8`, `REL8`, the direct-page and stack-relative formats). -/
theorem Layout.byte {op : Byte} {mk : Byte → Instr}
    (hd : ∀ ctx b1 b2 b3, decodeBytes ctx op b1 b2 b3 = (mk b1, 2) := by intros; rfl)
    (he : ∀ v, encode (mk v) = [op, v] := by intros; rfl)
    (hw : ∀ ctx v, (mk v).wellFormed ctx = true := by intros; rfl) : Layout op :=
  .fixed 1 (fun b1 _ _ => mk b1) hd (fun b1 _ _ => he b1) (fun ctx b1 _ _ => hw ctx b1)

/-- A 16-bit operand (`IMM16`, `REL16`, the absolute formats). -/
theorem Layout.word {op : Byte} {mk : Word → Instr}
    (hd : ∀ ctx b1 b2 b3, decodeBytes ctx op b1 b2 b3 = (mk (word16 b1 b2), 3) := by intros; rfl)
    (he : ∀ v, encode (mk v) = op :: wordBytes v := by intros; rfl)
    (hw : ∀ ctx v, (mk v).wellFormed ctx = true := by intros; rfl) : Layout op :=
  .fixed 2 (fun b1 b2 _ => mk (word16 b1 b2)) hd (fun b1 b2 _ => by simp [he, wordBytes])
    (fun ctx b1 b2 _ => hw ctx (word16 b1 b2))

/-- A 24-bit operand (`LONG`, `LONGX`, `LONGJ`). -/
theorem Layout.long {op : Byte} {mk : Addr → Instr}
    (hd : ∀ ctx b1 b2 b3, decodeBytes ctx op b1 b2 b3 = (mk (long24 b1 b2 b3), 4) := by intros; rfl)
    (he : ∀ v, encode (mk v) = op :: longBytes v := by intros; rfl)
    (hw : ∀ ctx v, (mk v).wellFormed ctx = true := by intros; rfl) : Layout op :=
  .fixed 3 (fun b1 b2 b3 => mk (long24 b1 b2 b3)) hd (fun b1 b2 b3 => by simp [he, longBytes, long24])
    (fun ctx b1 b2 b3 => hw ctx (long24 b1 b2 b3))

/-- Two bank bytes (`BLK`). -/
theorem Layout.banks {op : Byte} {mk : Byte → Byte → Instr}
    (hd : ∀ ctx b1 b2 b3, decodeBytes ctx op b1 b2 b3 = (mk b1 b2, 3) := by intros; rfl)
    (he : ∀ v w, encode (mk v w) = [op, v, w] := by intros; rfl)
    (hw : ∀ ctx v w, (mk v w).wellFormed ctx = true := by intros; rfl) : Layout op :=
  .fixed 2 (fun b1 b2 _ => mk b1 b2) hd (fun b1 b2 _ => he b1 b2) (fun ctx b1 b2 _ => hw ctx b1 b2)

/-- The opcode in row `hi` and column `lo` of R95. -/
def opcodeAt (hi lo : Fin 16) : Byte := BitVec.ofNat 8 (16 * hi + lo)

theorem opcodeAt_nibbles (op : Byte) :
    opcodeAt ⟨op.toNat / 16, by omega⟩ ⟨op.toNat % 16, by omega⟩ = op := by
  apply BitVec.eq_of_toNat_eq
  simp only [opcodeAt, Nat.div_add_mod, BitVec.ofNat_toNat, BitVec.setWidth_eq]

open Layout in
/-- Each format is that of the cell of R95, one line for each row. -/
theorem layout_opcodeAt (hi lo : Fin 16) : Layout (opcodeAt hi lo) := by
  fin_cases hi <;> fin_cases lo
  exacts [
    byte, byte, byte, byte, byte, byte, byte, byte, bare, immM, bare, bare, word, word, word, long,
    byte, byte, byte, byte, byte, byte, byte, byte, bare, word, bare, bare, word, word, word, long,
    word, byte, long, byte, byte, byte, byte, byte, bare, immM, bare, bare, word, word, word, long,
    byte, byte, byte, byte, byte, byte, byte, byte, bare, word, bare, bare, word, word, word, long,
    bare, byte, reserved, byte, banks, byte, byte, byte, bare, immM, bare, bare, word, word, word, long,
    byte, byte, byte, byte, banks, byte, byte, byte, bare, word, bare, bare, long, word, word, long,
    bare, byte, word, byte, byte, byte, byte, byte, bare, immM, bare, bare, word, word, word, long,
    byte, byte, byte, byte, byte, byte, byte, byte, bare, word, bare, bare, word, word, word, long,
    byte, byte, word, byte, byte, byte, byte, byte, bare, immM, bare, bare, word, word, word, long,
    byte, byte, byte, byte, byte, byte, byte, byte, bare, word, bare, bare, word, word, word, long,
    immX, byte, immX, byte, byte, byte, byte, byte, bare, immM, bare, bare, word, word, word, long,
    byte, byte, byte, byte, byte, byte, byte, byte, bare, word, bare, bare, word, word, word, long,
    immX, byte, byte, byte, byte, byte, byte, byte, bare, immM, bare, bare, word, word, word, long,
    byte, byte, byte, byte, byte, byte, byte, byte, bare, word, bare, bare, word, word, word, long,
    immX, byte, byte, byte, byte, byte, byte, byte, bare, immM, bare, bare, word, word, word, long,
    byte, byte, byte, byte, word, byte, byte, byte, bare, word, bare, bare, word, word, word, long]

/-- Every opcode byte has a layout (R95). -/
theorem layout_of_opcode (op : Byte) : Layout op :=
  opcodeAt_nibbles op ▸ layout_opcodeAt _ _

/-! What the decoder answers is well formed and is the encoding of its bytes. -/

/-- An immediate has the width that its predicate asks for (R93). -/
theorem wellFormed_decodeImmediate {ctx : DecodeContext} {mk : Immediate → Instr} {eightBit : Bool}
    (hw : ∀ imm, (mk imm).wellFormed ctx = imm.fits eightBit) (b1 b2 : Byte) :
    (decodeImmediate eightBit mk b1 b2).1.wellFormed ctx = true := by
  cases eightBit <;> exact hw _

/-- An immediate is written as the one or two bytes it was read from (R92, R93). -/
theorem encode_decodeImmediate {mk : Immediate → Instr} {op : Byte}
    (he : ∀ imm, encode (mk imm) = op :: immediateBytes imm) (eightBit : Bool) (b1 b2 b3 : Byte) :
    encode (decodeImmediate eightBit mk b1 b2).1 =
      op :: [b1, b2, b3].take ((decodeImmediate eightBit mk b1 b2).2 - 1) := by
  cases eightBit <;> simp [decodeImmediate, he, immediateBytes, wordBytes]

theorem decodeBytes_reserved (ctx : DecodeContext) (b1 b2 b3 : Byte) :
    decodeBytes ctx 0x42 b1 b2 b3 = decodeReserved ctx.wdmKnown b1 := rfl

theorem wellFormed_decodeBytes (ctx : DecodeContext) (op b1 b2 b3 : Byte) :
    (decodeBytes ctx op b1 b2 b3).1.wellFormed ctx = true := by
  cases layout_of_opcode op with
  | fixed n f decodes _ wellFormed =>
    rw [decodes]
    exact wellFormed ctx b1 b2 b3
  | immM _ decodes _ wellFormed | immX _ decodes _ wellFormed =>
    rw [decodes]
    exact wellFormed_decodeImmediate (wellFormed ctx) b1 b2
  | reserved eq =>
    rw [eq, decodeBytes_reserved, decodeReserved]
    split <;> simp [Instr.wellFormed, *]

/-- The operand bytes past the instruction's length are not part of its encoding (R94). -/
theorem encode_decodeBytes (ctx : DecodeContext) (op b1 b2 b3 : Byte) :
    encode (decodeBytes ctx op b1 b2 b3).1 = op :: [b1, b2, b3].take ((decodeBytes ctx op b1 b2 b3).2 - 1) := by
  cases layout_of_opcode op with
  | fixed n f decodes encodes _ =>
    rw [decodes]
    exact encodes b1 b2 b3
  | immM _ decodes encodes _ | immX _ decodes encodes _ =>
    rw [decodes]
    exact encode_decodeImmediate encodes _ b1 b2 b3
  | reserved eq =>
    rw [eq, decodeBytes_reserved, decodeReserved]
    split <;> rfl

/-- One to four bytes (R90). -/
theorem decodeBytes_length_bounds (ctx : DecodeContext) (op b1 b2 b3 : Byte) :
    1 ≤ (decodeBytes ctx op b1 b2 b3).2 ∧ (decodeBytes ctx op b1 b2 b3).2 ≤ 4 := by
  have hlen := decodeBytes_length ctx op b1 b2 b3
  rw [Instr.length, encode_decodeBytes, List.length_cons, List.length_take] at hlen
  simp only [List.length_cons, List.length_nil] at hlen
  omega

/-- The operand bytes that `decode` looks at are the next bytes, as far as they are there. -/
theorem take_operandBytes (rest : List Byte) {n : Nat} (hlen : n ≤ rest.length) (hn : n ≤ 3) :
    [rest.getD 0 0, rest.getD 1 0, rest.getD 2 0].take n = rest.take n := by
  refine List.ext_getElem (by simp only [List.length_take, List.length_cons, List.length_nil]; omega) fun k hk hk' => ?_
  have hk3 : k < 3 := (List.length_take_le' ..).trans_lt' hk
  have hkr : k < rest.length := (List.length_take_le' ..).trans_lt' hk'
  rw [List.getElem_take, List.getElem_take, ← List.getD_eq_getElem rest 0 hkr]
  interval_cases k <;> rfl

/-- Settles O3: the encoding of the instruction is the opcode byte and the operand bytes that were looked at. -/
theorem encodeOfDecode : Obligations.EncodeOfDecode := by
  unfold Obligations.EncodeOfDecode
  intro ctx bytes i rest h
  cases bytes with
  | nil => cases h
  | cons op tail =>
    rw [decode] at h
    split at h
    next hlen =>
      cases h
      obtain ⟨hpos, hmax⟩ := decodeBytes_length_bounds ctx op (tail.getD 0 0) (tail.getD 1 0) (tail.getD 2 0)
      refine ⟨wellFormed_decodeBytes .., ?_⟩
      rw [encode_decodeBytes, take_operandBytes tail (by omega) (by omega), List.cons_append, List.take_append_drop]
    next => cases h

/-! The decoder on the bytes of an instruction. -/

open Sys2Proof.Laws.DecodesOwnBytes in
/-- The decoder reads every instruction from its own bytes: the lemmas of the constructors, put together. -/
theorem decodesOwnBytes (i : Instr) : Statement i :=
  i.casesOn
    brk oraDpIndX cop oraSr tsbDp oraDp aslDp oraDpIndLong oraImm tsbAbs oraAbs aslAbs oraLong bpl oraDpIndY
    oraDpInd oraSrIndY trbDp oraDpX aslDpX oraDpIndLongY oraAbsY trbAbs oraAbsX aslAbsX oraLongX jsrAbs andDpIndX
    jsl andSr bitDp andDp rolDp andDpIndLong andImm bitAbs andAbs rolAbs andLong bmi andDpIndY andDpInd andSrIndY
    bitDpX andDpX rolDpX andDpIndLongY andAbsY bitAbsX andAbsX rolAbsX andLongX eorDpIndX wdm eorSr mvp eorDp lsrDp
    eorDpIndLong eorImm jmpAbs eorAbs lsrAbs eorLong bvc eorDpIndY eorDpInd eorSrIndY mvn eorDpX lsrDpX
    eorDpIndLongY eorAbsY jmlLong eorAbsX lsrAbsX eorLongX adcDpIndX per adcSr stzDp adcDp rorDp adcDpIndLong adcImm
    jmpInd adcAbs rorAbs adcLong bvs adcDpIndY adcDpInd adcSrIndY stzDpX adcDpX rorDpX adcDpIndLongY adcAbsY jmpIndX
    adcAbsX rorAbsX adcLongX bra staDpIndX brl staSr styDp staDp stxDp staDpIndLong bitImm styAbs staAbs stxAbs
    staLong bcc staDpIndY staDpInd staSrIndY styDpX staDpX stxDpY staDpIndLongY staAbsY stzAbs staAbsX stzAbsX
    staLongX ldyImm ldaDpIndX ldxImm ldaSr ldyDp ldaDp ldxDp ldaDpIndLong ldaImm ldyAbs ldaAbs ldxAbs ldaLong bcs
    ldaDpIndY ldaDpInd ldaSrIndY ldyDpX ldaDpX ldxDpY ldaDpIndLongY ldaAbsY ldyAbsX ldaAbsX ldxAbsY ldaLongX cpyImm
    cmpDpIndX rep cmpSr cpyDp cmpDp decDp cmpDpIndLong cmpImm cpyAbs cmpAbs decAbs cmpLong bne cmpDpIndY cmpDpInd
    cmpSrIndY pei cmpDpX decDpX cmpDpIndLongY cmpAbsY jmlIndLong cmpAbsX decAbsX cmpLongX cpxImm sbcDpIndX sep sbcSr
    cpxDp sbcDp incDp sbcDpIndLong sbcImm cpxAbs sbcAbs incAbs sbcLong beq sbcDpIndY sbcDpInd sbcSrIndY pea sbcDpX
    incDpX sbcDpIndLongY sbcAbsY jsrIndX sbcAbsX incAbsX sbcLongX php aslAcc phd clc incAcc tcs plp rolAcc pld sec
    decAcc tsc rti pha lsrAcc phk cli phy tcd rts pla rorAcc rtl sei ply tdc dey txa phb tya txs txy tay tax plb clv
    tsx tyx iny dex wai cld phx stp inx nop xba sed plx xce

theorem decode_cons {ctx : DecodeContext} {op : Byte} {tail : List Byte} {i : Instr} {n : Nat}
    (h : decodeBytes ctx op (tail.getD 0 0) (tail.getD 1 0) (tail.getD 2 0) = (i, n)) (hn : n ≤ tail.length + 1) :
    decode ctx (op :: tail) = .ok (i, tail.drop (n - 1)) := by
  simp only [decode, h, if_pos hn]

/-- Settles O2: the bytes of an instruction decode to it and its length, and the encoding has that length. -/
theorem decodeOfEncode : Obligations.DecodeOfEncode := by
  unfold Obligations.DecodeOfEncode
  intro ctx i rest hwf
  have hdec := decodesOwnBytes i ctx rest hwf
  have henc := encode_decodeBytes ctx (byteOf i rest 0) (byteOf i rest 1) (byteOf i rest 2) (byteOf i rest 3)
  rw [hdec] at henc
  -- The encoding is not empty: it is also that of what the decoder read from these bytes.
  obtain ⟨op, tail, hcode⟩ : ∃ op tail, encode i = op :: tail := ⟨_, _, henc⟩
  simp only [byteOf, Instr.length, hcode, List.cons_append, List.getD_cons_zero, List.getD_cons_succ] at hdec
  have hfits : (op :: tail).length ≤ (tail ++ rest).length + 1 := by simp
  calc decode ctx (encode i ++ rest) = decode ctx (op :: (tail ++ rest)) := by rw [hcode, List.cons_append]
    _ = .ok (i, (tail ++ rest).drop tail.length) := decode_cons hdec hfits
    _ = .ok (i, rest) := by rw [List.drop_left]

/-! The length and the widths. -/

theorem decodeImmediate_length (eightBit : Bool) (mk : Immediate → Instr) (b1 b2 : Byte) :
    (decodeImmediate eightBit mk b1 b2).2 = if eightBit = true then 2 else 3 := by
  cases eightBit <;> rfl

theorem decodeBytes_length_of_immM {op : Byte} (h : op ∈ immMOpcodes) (ctx : DecodeContext) (b1 b2 b3 : Byte) :
    (decodeBytes ctx op b1 b2 b3).2 = if ctx.m8 = true then 2 else 3 := by
  fin_cases h
  all_goals exact decodeImmediate_length ctx.m8 _ b1 b2

theorem decodeBytes_length_of_immX {op : Byte} (h : op ∈ immXOpcodes) (ctx : DecodeContext) (b1 b2 b3 : Byte) :
    (decodeBytes ctx op b1 b2 b3).2 = if ctx.x8 = true then 2 else 3 := by
  fin_cases h
  all_goals exact decodeImmediate_length ctx.x8 _ b1 b2

/-- Outside the twelve opcodes, neither the widths nor the operand bytes bear on the length (R93, R96). -/
theorem decodeBytes_length_of_not_imm {op : Byte} (hm : op ∉ immMOpcodes) (hx : op ∉ immXOpcodes)
    {ctx ctx' : DecodeContext} (hk : ctx.wdmKnown = ctx'.wdmKnown) (b1 b2 b3 b1' b2' b3' : Byte) :
    (decodeBytes ctx op b1 b2 b3).2 = (decodeBytes ctx' op b1' b2' b3').2 := by
  cases layout_of_opcode op with
  | fixed n f decodes _ _ => rw [decodes, decodes]
  | immM mem _ _ _ => exact absurd mem hm
  | immX mem _ _ _ => exact absurd mem hx
  | reserved eq =>
    rw [eq, decodeBytes_reserved, decodeBytes_reserved, hk]
    cases ctx'.wdmKnown <;> rfl

/-- Settles O4: the length of each of the twelve opcodes, and of the others in any two contexts with one K. -/
theorem lengthFollowsWidths : Obligations.LengthFollowsWidths := by
  unfold Obligations.LengthFollowsWidths
  refine fun s => ⟨fun h => ?_, fun h => ?_, fun hm hx m x b1 b2 b3 => ?_⟩
  · simp only [State.nextInstr, decodeBytes_length_of_immM h, State.decodeContext, State.m8, Bool.or_eq_true]
  · simp only [State.nextInstr, decodeBytes_length_of_immX h, State.decodeContext, State.x8, Bool.or_eq_true]
  · have hk : DecodeContext.wdmKnown ⟨m, x, s.config.knows 0x42⟩ = s.decodeContext.wdmKnown := rfl
    rw [State.nextInstr]
    exact decodeBytes_length_of_not_imm hm hx hk ..

/-- Settles O1: the words of R95 by evaluation of the decoder. -/
theorem specWordsDecode : Obligations.SpecWordsDecode :=
  ⟨rfl, rfl, rfl, rfl, rfl, rfl, rfl, rfl, rfl, rfl⟩

end Sys2Proof.Claims
end

section
/-! PROOFS. The effective addresses in numbers (R122 to R137): one lemma each for `IndexAdd`, for the direct-page and
stack-relative offsets and for the bank-0 pointers, and then each mode by the ones it uses. -/

namespace Sys2Proof.Claims

open Sys2Proof.Machine

/-! Sums. -/

/-- A shorter word zero-extended and added: an index to a 24-bit address (R127, R135), a displacement to a register
(R128, R136). -/
theorem toNat_add_setWidth {v w : Nat} (h : v ≤ w) (a : BitVec w) (b : BitVec v) :
    (a + b.setWidth w).toNat = (a.toNat + b.toNat) % 2 ^ w := by
  rw [BitVec.toNat_add, BitVec.toNat_setWidth_of_le h]

theorem toNat_add_index (a : Addr) (idx : Word) : (a + idx.setWidth 24).toNat = (a.toNat + idx.toNat) % 2 ^ 24 :=
  toNat_add_setWidth (by decide) a idx

theorem toNat_indexAdd (carries : Bool) (bank : Byte) (base idx : Word) :
    (indexAdd carries bank base idx).toNat =
      if carries then (65536 * bank.toNat + base.toNat + idx.toNat) % 2 ^ 24
      else 65536 * bank.toNat + (base.toNat + idx.toNat) % 65536 := by
  rw [indexAdd]
  split
  · rw [toNat_add_index, toNat_addr24]
  · rw [toNat_addr24, BitVec.toNat_add]

/-! Offsets in bank 0. -/

theorem toNat_directPage (s : State) (d : Byte) : (s.directPage d).toNat = (s.d.toNat + d.toNat) % 65536 :=
  toNat_add_setWidth (by decide) s.d d

theorem toNat_directPage_add (s : State) (d : Byte) (idx : Word) :
    (s.directPage d + idx).toNat = (s.d.toNat + d.toNat + idx.toNat) % 65536 := by
  rw [BitVec.toNat_add, toNat_directPage, Nat.mod_add_mod]

theorem toNat_stackRelative (s : State) (d : Byte) : (s.stackRelative d).toNat = (s.sp.toNat + d.toNat) % 65536 :=
  toNat_add_setWidth (by decide) s.sp d

/-! Pointers in bank 0: the statements' reads take an offset modulo the bank's size (R66). -/

theorem word0_mod (s : State) (n : Nat) : word0 s (n % 65536) = word0 s n := by
  rw [word0, word0, Nat.mod_mod, Nat.mod_add_mod]

theorem long0_mod (s : State) (n : Nat) : long0 s (n % 65536) = long0 s n := by
  rw [long0, long0, word0_mod, Nat.mod_add_mod]

/-- The model's 24-bit read in bank 0 is the statements' (R66). -/
theorem toNat_memLong0 (s : State) (offset : Word) : (memLong0 s.mem offset).toNat = long0 s offset.toNat := by
  have hbank : (offset.toNat + 2) % 65536 = (offset + 2).toNat := by simp [BitVec.toNat_add]
  have hword : (word16 (memByte s.mem (bank0 offset)) (memByte s.mem (bank0 (offset + 1)))).toNat
      = word0 s offset.toNat := toNat_memWord0 s offset
  rw [memLong0, long24, toNat_addr24, hword, long0, hbank, byteAt_toNat_bank0, Nat.add_comm]

theorem toNat_memWord0_directPage (s : State) (d : Byte) :
    (memWord0 s.mem (s.directPage d)).toNat = word0 s (s.d.toNat + d.toNat) := by
  rw [toNat_memWord0, toNat_directPage, word0_mod]

theorem toNat_memWord0_directPage_add (s : State) (d : Byte) (idx : Word) :
    (memWord0 s.mem (s.directPage d + idx)).toNat = word0 s (s.d.toNat + d.toNat + idx.toNat) := by
  rw [toNat_memWord0, toNat_directPage_add, word0_mod]

theorem toNat_memWord0_stackRelative (s : State) (d : Byte) :
    (memWord0 s.mem (s.stackRelative d)).toNat = word0 s (s.sp.toNat + d.toNat) := by
  rw [toNat_memWord0, toNat_stackRelative, word0_mod]

theorem toNat_memLong0_directPage (s : State) (d : Byte) :
    (memLong0 s.mem (s.directPage d)).toNat = long0 s (s.d.toNat + d.toNat) := by
  rw [toNat_memLong0, toNat_directPage, long0_mod]

/-! The modes. -/

/-- Settles O28: each absolute mode is an address in `DB`, `IndexAdd` on it, or a 24-bit sum. -/
theorem absoluteAddresses : Obligations.AbsoluteAddresses := by
  unfold Obligations.AbsoluteAddresses
  intro s a al
  exact ⟨toNat_addr24 s.db a, toNat_indexAdd _ s.db a s.x, toNat_indexAdd _ s.db a s.y, rfl, toNat_add_index al s.x⟩

/-- Settles O29: each mode's offset or pointer in bank 0 in numbers, then the bank or the index added to it. -/
theorem directPageAddresses : Obligations.DirectPageAddresses := by
  unfold Obligations.DirectPageAddresses
  intro s d
  refine ⟨?dp, ?dpX, ?dpY, ?dpInd, ?dpIndX, ?dpIndY, ?dpIndLong, ?dpIndLongY, ?sr, ?srIndY⟩
  case dp => rw [State.ea, toNat_bank0, toNat_directPage]
  case dpX => rw [State.ea, toNat_bank0, toNat_directPage_add]
  case dpY => rw [State.ea, toNat_bank0, toNat_directPage_add]
  case dpInd => rw [State.ea, toNat_addr24, toNat_memWord0_directPage]
  case dpIndX => rw [State.ea, toNat_addr24, toNat_memWord0_directPage_add]
  case dpIndY => rw [State.ea, toNat_indexAdd, toNat_memWord0_directPage]
  case dpIndLong => rw [State.ea, toNat_memLong0_directPage]
  case dpIndLongY => rw [State.ea, toNat_add_index, toNat_memLong0_directPage]
  case sr => rw [State.ea, toNat_bank0, toNat_stackRelative]
  case srIndY => rw [State.ea, toNat_indexAdd, toNat_memWord0_stackRelative]

end Sys2Proof.Claims
end

section
/-! PROOFS. Every instruction completes, and what is not the CPU's is untouched (R441, R449). -/

namespace Sys2Proof.Claims

open Sys2Proof.Machine

/-- No effect of an instruction reaches the coprocessor, the host's fields, the configuration or the inputs. -/
theorem surroundingsKept_of_effect {i : Instr} {s t : State} (h : Effect s i t) : SurroundingsKept s t := by
  cases h with
  | bit o _ =>
    rw [bit_frame]
    exact ⟨rfl, rfl, rfl, rfl, rfl, rfl⟩
  | modify op target _ =>
    rw [modify_frame]
    exact ⟨rfl, rfl, rfl, rfl, rfl, rfl⟩
  | trap k _ =>
    rw [trapEnter_frame]
    exact ⟨rfl, rfl, rfl, rfl, rfl, rfl⟩
  | pla =>
    rw [State.pullAcc, pulledData_frame]
    exact ⟨rfl, rfl, rfl, rfl, rfl, rfl⟩
  | plx =>
    rw [State.pullX, pulledData_frame]
    exact ⟨rfl, rfl, rfl, rfl, rfl, rfl⟩
  | ply =>
    rw [State.pullY, pulledData_frame]
    exact ⟨rfl, rfl, rfl, rfl, rfl, rfl⟩
  | rti =>
    rw [trapReturn_frame]
    exact ⟨rfl, rfl, rfl, rfl, rfl, rfl⟩
  | xce =>
    rw [exchangeCE_frame]
    exact ⟨rfl, rfl, rfl, rfl, rfl, rfl⟩
  | _ => exact ⟨rfl, rfl, rfl, rfl, rfl, rfl⟩

/-- Outside the instructions that read an operand nothing can be refused. -/
theorem exec_completes_of_no_dataForm {i : Instr} (s : State) (hi : i.dataForm = none) : ∃ t, exec i s = .next t := by
  cases i <;> cases hi <;> exact ⟨_, rfl⟩

/-- `ADC` and `SBC` complete unless decimal arithmetic is refused (R163, R164). -/
theorem sum_completes {s : State} (h : ¬ (s.flag .d = true ∧ s.config.decimalMode = .refuse)) (w : Width)
    (a m : Word) (bin : SumResult) (dec : Word × Bool) : ∃ t, s.sum w a m bin dec = .next t := by
  obtain ⟨-, hsum⟩ | ⟨-, -, hsum⟩ | ⟨hd, hr, -⟩ := sum_cases s w a m bin dec
  · exact ⟨_, hsum⟩
  · exact ⟨_, hsum⟩
  · exact absurd ⟨hd, hr⟩ h

theorem sum_refused {s : State} (hd : s.flag .d = true) (hr : s.config.decimalMode = .refuse) (w : Width) (a m : Word)
    (bin : SumResult) (dec : Word × Bool) : s.sum w a m bin dec = .refused .decimalModeRefuses := by
  simp [State.sum, hd, hr]

theorem exec_refused {i : Instr} {s : State} (h : DecimalRefused i s) : exec i s = .refused .decimalModeRefuses := by
  obtain ⟨⟨o, hi | hi⟩, hd, hr⟩ := h
  · exact (exec_dataForm s hi).trans (sum_refused hd hr ..)
  · exact (exec_dataForm s hi).trans (sum_refused hd hr ..)

theorem exec_completes {i : Instr} {s : State} (h : ¬ DecimalRefused i s) : ∃ t, exec i s = .next t := by
  cases hi : i.dataForm with
  | none => exact exec_completes_of_no_dataForm s hi
  | some form =>
    obtain ⟨op, o⟩ := form
    rw [exec_dataForm s hi]
    cases op with
    | adc => exact sum_completes (fun hrefuse => h ⟨⟨o, .inl hi⟩, hrefuse⟩) ..
    | sbc => exact sum_completes (fun hrefuse => h ⟨⟨o, .inr hi⟩, hrefuse⟩) ..
    | _ => exact ⟨_, rfl⟩

/-- Settles O16: only a decimal addition can be refused, and the effect of what completes is the CPU's own. -/
theorem instructionsComplete : Obligations.InstructionsComplete := by
  unfold Obligations.InstructionsComplete
  refine fun i s => ⟨exec_refused, fun h => ?_⟩
  obtain ⟨t, ht⟩ := exec_completes h
  exact ⟨t, ht, surroundingsKept_of_effect (effect_of_exec ht)⟩

end Sys2Proof.Claims
end

section
/-! PROOFS. Binary arithmetic, logic, compare and bit test in numbers (R161 to R173): what an operation leaves in the
accumulator and in N and Z is said once for any value, and `AddBinary` once for `ADC`, `SBC` and the compares. -/

namespace Sys2Proof.Claims

open Sys2Proof.Machine

/-! Values in a width. -/

theorem toNat_acc (s : State) (w : Width) : (s.acc w).toNat = regValue w s.c := toNat_trunc w s.c

theorem regValue_lt (w : Width) (r : Word) : regValue w r < 2 ^ w.bits := Nat.mod_lt _ (Nat.two_pow_pos _)

theorem regValue_of_lt {w : Width} {r : Word} (h : r.toNat < 2 ^ w.bits) : regValue w r = r.toNat := Nat.mod_eq_of_lt h

theorem regValue_ofNat (w : Width) (n : Nat) : regValue w (BitVec.ofNat 16 n) = n % 2 ^ w.bits := by
  rw [regValue, BitVec.toNat_ofNat]
  exact Nat.mod_mod_of_dvd _ (Nat.pow_dvd_pow 2 (by cases w <;> decide))

theorem trunc_eq_zero_iff (w : Width) (v : Word) : trunc w v = 0 ↔ regValue w v = 0 := by
  rw [← BitVec.toNat_inj, toNat_trunc]
  rfl

/-- The sign bit of a width is the sign bit of the value seen in it. -/
theorem getLsbD_trunc_widthTop (w : Width) (v : Word) : (trunc w v).getLsbD (widthTop w) = v.getLsbD (widthTop w) := by
  cases w
  · simp [trunc, widthMask, widthTop]
  · rw [trunc_word]

theorem getLsbD_widthTop_regValue (w : Width) (v : Word) :
    v.getLsbD (widthTop w) = decide (2 ^ (w.bits - 1) ≤ regValue w v) := by
  rw [← getLsbD_trunc_widthTop, getLsbD_widthTop w _ (trunc_lt w v), toNat_trunc]
  rfl

/-! What stands in the accumulator and in N and Z. -/

theorem accHolds_withAcc {s t : State} {w : Width} {v : Word} (h : t.c = withAcc s.c w v) :
    AccHolds s t w (regValue w v) where
  value := by
    rw [h, regValue, regValue, ← toNat_trunc, ← toNat_trunc, trunc_withAcc]
  keepsB hw := by
    rw [h, hw, highByte_withAcc_byte]

theorem showsNZ_statusNZ {t : State} {p : Byte} {v : Word} {w : Width} (h : t.p = statusNZ p v w) :
    ShowsNZ t w (regValue w v) where
  negative := by
    rw [State.flag, h, statusFlag_statusNZ, if_pos rfl, getLsbD_widthTop_regValue]
  zero := by
    rw [State.flag, h, statusFlag_statusNZ, if_neg (by decide), if_pos rfl, decide_eq_decide]
    exact trunc_eq_zero_iff w v

theorem flag_c_statusNZ {t : State} {p : Byte} {b : Bool} {v : Word} {w : Width}
    (h : t.p = statusNZ (putFlag p .c b) v w) : t.flag .c = b := by
  simp [State.flag, h, statusFlag_statusNZ]

theorem flag_v_applySum (s : State) (w : Width) (r : SumResult) : (s.applySum w r).flag .v = r.overflow := by
  simp [State.flag, statusFlag_statusSum]

theorem flag_c_applySum (s : State) (w : Width) (r : SumResult) : (s.applySum w r).flag .c = r.carry := by
  simp [State.flag, statusFlag_statusSum]

/-! `AddBinary` (R161). -/

theorem regValue_addBinary (w : Width) (a m : Word) (cin : Bool) :
    regValue w (addBinary w a m cin).value = (a.toNat + m.toNat + cin.toNat) % 2 ^ w.bits := by
  rw [addBinary, regValue_ofNat, Nat.mod_mod]

/-- The sign mask tells the sign bit. -/
theorem and_widthSign_ne_zero (w : Width) (v : Word) : decide (v &&& widthSign w ≠ 0) = v.getLsbD (widthTop w) := by
  have hsign : widthSign w = BitVec.twoPow 16 (widthTop w) := by cases w <;> rfl
  have hpow : BitVec.twoPow 16 (widthTop w) ≠ 0 := by cases w <;> decide
  rw [hsign, BitVec.and_twoPow]
  split
  next h => simpa [h] using hpow
  next h => simp [h]

/-- A signed sum is out of range exactly when the operands have one sign and the result the other (R173). -/
theorem overflows_add {w : Width} {a m cin : Nat} (ha : a < 2 ^ w.bits) (hm : m < 2 ^ w.bits) (hc : cin ≤ 1) :
    overflows w (signedOf w a + signedOf w m + cin) =
      ((decide (2 ^ (w.bits - 1) ≤ a) == decide (2 ^ (w.bits - 1) ≤ m)) &&
        (decide (2 ^ (w.bits - 1) ≤ a) != decide (2 ^ (w.bits - 1) ≤ (a + m + cin) % 2 ^ w.bits))) := by
  rw [Bool.eq_iff_iff, overflows, decide_eq_true_iff]
  simp only [signedOf, Bool.and_eq_true, beq_iff_eq, bne_iff_ne, ne_eq, decide_eq_decide]
  cases w <;> simp only [Width.bits] at * <;> omega

theorem xor_signs : ∀ p q r : Bool, (!(p ^^ q) && (p ^^ r)) = (p == q && p != r) := by decide

section
variable {w : Width} {a m : Word} (ha : a.toNat < 2 ^ w.bits) (hm : m.toNat < 2 ^ w.bits)
include ha hm

theorem addBinary_carry (cin : Bool) :
    (addBinary w a m cin).carry = decide (2 ^ w.bits ≤ a.toNat + m.toNat + cin.toNat) :=
  testBit_width w (by have := cin.toNat_le; omega)

theorem addBinary_overflow (cin : Bool) :
    (addBinary w a m cin).overflow = overflows w (signedOf w a.toNat + signedOf w m.toNat + cin.toNat) := by
  have htop : widthTop w < 16 := by cases w <;> decide
  rw [overflows_add ha hm cin.toNat_le, ← regValue_addBinary, ← getLsbD_widthTop w a ha, ← getLsbD_widthTop w m hm,
    ← getLsbD_widthTop_regValue]
  refine (and_widthSign_ne_zero w _).trans ?_
  rw [BitVec.getLsbD_and, BitVec.getLsbD_not, BitVec.getLsbD_xor, BitVec.getLsbD_xor, decide_eq_true htop,
    Bool.true_and]
  exact xor_signs _ _ _

end

/-! `ADC` and `SBC`. -/

theorem accHolds_applySum (s : State) (w : Width) (r : SumResult) :
    AccHolds s (s.applySum w r) w (regValue w r.value) := accHolds_withAcc rfl

theorem showsNZ_applySum (s : State) (w : Width) (r : SumResult) :
    ShowsNZ (s.applySum w r) w (regValue w r.value) := showsNZ_statusNZ rfl

theorem flagsKept_applySum (s : State) (w : Width) (r : SumResult) :
    FlagsKept s (s.applySum w r) [.n, .v, .z, .c] := (flagsKept_statusSum rfl).mono

theorem sum_of_binary {s : State} (h : s.flag .d = false ∨ s.config.decimalMode = .binary) (w : Width) (a m : Word)
    (bin : SumResult) (dec : Word × Bool) : s.sum w a m bin dec = .next (s.applySum w bin) := if_pos h

/-- A binary sum of values in the width, in numbers: what `ADC` adds, and `SBC` with the complement (R163, R164). -/
theorem applySum_addBinary (s : State) {w : Width} {a m : Word} {cin : Bool} (ha : a.toNat < 2 ^ w.bits)
    (hm : m.toNat < 2 ^ w.bits) :
    let t := s.applySum w (addBinary w a m cin)
    let sum := a.toNat + m.toNat + cin.toNat
    let r := sum % 2 ^ w.bits
    AccHolds s t w r ∧ ShowsNZ t w r ∧ t.flag .c = decide (2 ^ w.bits ≤ sum) ∧
      t.flag .v = overflows w (signedOf w a.toNat + signedOf w m.toNat + cin.toNat) := by
  have hvalue := regValue_addBinary w a m cin
  refine ⟨hvalue ▸ accHolds_applySum s w _, hvalue ▸ showsNZ_applySum s w _, ?_, ?_⟩
  · rw [flag_c_applySum, addBinary_carry ha hm]
  · rw [flag_v_applySum, addBinary_overflow ha hm]

/-- Settles O20: the sum of the accumulator, the operand and the carry. -/
theorem adcBinary : Obligations.AdcBinary := by
  unfold Obligations.AdcBinary
  intro i o s hi hd w a m carry r
  obtain ⟨hacc, hnz, hcarry, hoverflow⟩ :=
    applySum_addBinary s (a := s.acc w) (cin := s.flag .c) (trunc_lt w s.c) (operand_lt s o w)
  rw [toNat_acc] at hacc hnz hcarry hoverflow
  exact ⟨_, (exec_dataForm s hi).trans (sum_of_binary hd ..), hacc, hnz, hcarry, hoverflow,
    flagsKept_applySum s w _, rfl⟩

/-- Adding the complement and a carry in is subtracting, with a borrow when the carry is clear (R164). -/
theorem signedOf_complement {w : Width} {m : Nat} (hm : m < 2 ^ w.bits) :
    signedOf w (2 ^ w.bits - 1 - m) = -signedOf w m - 1 := by
  cases w <;> simp only [signedOf, Width.bits] at * <;> omega

/-- Settles O21: the sum of the accumulator, the operand's complement and the carry. -/
theorem sbcBinary : Obligations.SbcBinary := by
  unfold Obligations.SbcBinary
  intro i o s hi hd w a m borrow r
  have ha : (s.acc w).toNat = a := toNat_acc s w
  have hm : m < 2 ^ w.bits := operand_lt s o w
  have hmc : (complement w (s.operand o w)).toNat = 2 ^ w.bits - 1 - m := toNat_complement w _ hm
  obtain ⟨hacc, hnz, hcarry, hoverflow⟩ :=
    applySum_addBinary s (a := s.acc w) (m := complement w (s.operand o w)) (cin := s.flag .c) (trunc_lt w _)
      (trunc_lt w _)
  rw [ha, hmc] at hacc hnz hcarry hoverflow
  rw [signedOf_complement hm] at hoverflow
  have hc := (s.flag .c).toNat_le
  have hsum : a + (2 ^ w.bits - 1 - m) + (s.flag .c).toNat = a + 2 ^ w.bits - (m + borrow) := by omega
  have hvalue : (a + (2 ^ w.bits - 1 - m) + (s.flag .c).toNat) % 2 ^ w.bits = r := by rw [hsum]
  rw [hvalue] at hacc hnz
  refine ⟨_, (exec_dataForm s hi).trans (sum_of_binary hd ..), hacc, hnz, ?_, ?_, flagsKept_applySum s w _, rfl⟩
  · rw [hcarry, decide_eq_decide]
    omega
  · rw [hoverflow]
    congr 1
    omega

/-! Logic (R165, R166, R167). -/

/-- What a load of the accumulator leaves, when the value fits the width (R10, R22). -/
theorem loadAcc_holds (s : State) {w : Width} {v : Word} {r : Nat} (hv : v.toNat = r) (hr : r < 2 ^ w.bits) :
    AccHolds s (s.loadAcc w v) w r ∧ ShowsNZ (s.loadAcc w v) w r ∧ FlagsKept s (s.loadAcc w v) [.n, .z] := by
  have hreg : regValue w v = r := (regValue_of_lt (hv ▸ hr)).trans hv
  exact ⟨hreg ▸ accHolds_withAcc rfl, hreg ▸ showsNZ_statusNZ rfl, flagsKept_statusNZ rfl⟩

/-- The word that a logic instruction puts in the accumulator is the bitwise result, and it fits the width. -/
theorem exec_logic {i : Instr} {op : DataOp} {o : DataOperand} {s : State} {r : Nat}
    (hi : i.dataForm = some (op, o)) (hr : logicValue op (regValue s.mw s.c) (operandValue s op o) = some r) :
    ∃ v : Word, exec i s = .next (s.loadAcc s.mw v) ∧ v.toNat = r ∧ r < 2 ^ s.mw.bits := by
  have ha : (s.acc s.mw).toNat = regValue s.mw s.c := toNat_acc s s.mw
  have halt := regValue_lt s.mw s.c
  have hmlt := operand_lt s o s.mw
  have hexec := exec_dataForm s hi
  cases op with
  | and =>
    cases hr
    exact ⟨_, hexec, by rw [BitVec.toNat_and, ha]; rfl, Nat.and_lt_two_pow _ hmlt⟩
  | ora =>
    cases hr
    exact ⟨_, hexec, by rw [BitVec.toNat_or, ha]; rfl, Nat.or_lt_two_pow halt hmlt⟩
  | eor =>
    cases hr
    exact ⟨_, hexec, by rw [BitVec.toNat_xor, ha]; rfl, Nat.xor_lt_two_pow halt hmlt⟩
  | _ => cases hr

/-- Settles O24: each is a load of the bitwise result. -/
theorem logicInstructions : Obligations.LogicInstructions := by
  unfold Obligations.LogicInstructions
  intro i op o s r hi hr
  obtain ⟨v, hexec, hv, hlt⟩ := exec_logic hi hr
  obtain ⟨hacc, hnz, hkept⟩ := loadAcc_holds s hv hlt
  exact ⟨_, hexec, hacc, hnz, hkept, rfl⟩

/-! Compares (R168 to R171). -/

/-- A compare is the addition of the complement with a carry in, its result not kept (R168). -/
theorem statusCompare_eq_addBinary (p : Byte) (w : Width) (r m : Word) :
    let difference := addBinary w r (complement w m) true
    statusCompare p w r m = statusNZ (putFlag p .c difference.carry) difference.value w := rfl

/-- What `Compare` shows in C, Z and N of two values in the width (R168). -/
theorem compare_flags (s : State) {w : Width} {r m : Word} (hr : r.toNat < 2 ^ w.bits) (hm : m.toNat < 2 ^ w.bits) :
    (s.compare r m w).flag .c = decide (m.toNat ≤ r.toNat) ∧
      ShowsNZ (s.compare r m w) w ((r.toNat + 2 ^ w.bits - m.toNat) % 2 ^ w.bits) := by
  have hmc := toNat_complement w m hm
  have hsum : r.toNat + (2 ^ w.bits - 1 - m.toNat) + 1 = r.toNat + 2 ^ w.bits - m.toNat := by omega
  constructor
  · rw [flag_c_statusNZ (statusCompare_eq_addBinary s.p w r m), addBinary_carry hr (hmc ▸ by omega), hmc,
      Bool.toNat_true, hsum, decide_eq_decide]
    omega
  · have hnz := showsNZ_statusNZ (t := s.compare r m w) (statusCompare_eq_addBinary s.p w r m)
    rwa [regValue_addBinary, hmc, Bool.toNat_true, hsum] at hnz

/-- The difference in a width is zero exactly for equal values. -/
theorem sub_mod_eq_zero_iff (w : Width) {r m : Nat} (hr : r < 2 ^ w.bits) (hm : m < 2 ^ w.bits) :
    (r + 2 ^ w.bits - m) % 2 ^ w.bits = 0 ↔ r = m := by
  cases w <;> simp only [Width.bits] at * <;> omega

/-- Each compare is of its register in the width of its operand (R169, R170, R171). -/
theorem exec_compare {i : Instr} {op : DataOp} {o : DataOperand} {s : State} {reg : Word}
    (hi : i.dataForm = some (op, o)) (hreg : comparedRegister s op = some reg) :
    exec i s = .next (s.compare (trunc (dataWidth s op) reg) (s.operand o (dataWidth s op)) (dataWidth s op)) := by
  rw [exec_dataForm s hi]
  cases op <;> cases hreg <;> rfl

/-- Settles O25: the flags of `Compare`, of which Z is that of the difference. -/
theorem compareInstructions : Obligations.CompareInstructions := by
  unfold Obligations.CompareInstructions
  intro i op o s reg hi hreg w r m
  have hm : m < 2 ^ w.bits := operand_lt s o w
  obtain ⟨hcarry, hneg, hzero⟩ := compare_flags s (trunc_lt w reg) hm
  rw [toNat_trunc] at hcarry hneg hzero
  refine ⟨_, exec_compare hi hreg, hcarry, ?_, hneg, flagsKept_compare s _ _ w, rfl⟩
  rw [hzero, decide_eq_decide]
  exact sub_mod_eq_zero_iff w (regValue_lt w reg) hm

/-! Bit test (R172). -/

/-- The AND that `BIT` tests, in numbers. -/
theorem trunc_acc_and_eq_zero_iff (s : State) (o : DataOperand) (w : Width) :
    trunc w (s.acc w &&& s.operand o w) = 0 ↔ regValue w s.c &&& (s.operand o w).toNat = 0 := by
  rw [trunc_eq_zero_iff, regValue_of_lt, BitVec.toNat_and, toNat_acc]
  rw [BitVec.toNat_and]
  exact Nat.and_lt_two_pow _ (operand_lt s o w)

theorem widthTop_eq (w : Width) : widthTop w = w.bits - 1 := by cases w <;> rfl

/-- The memory forms show the operand's top bits in N and V. -/
theorem bit_mem_negative_overflow (s : State) (mode : AddrMode) :
    (s.bit (.mem mode)).flag .n = (s.operand (.mem mode) s.mw).toNat.testBit (s.mw.bits - 1) ∧
      (s.bit (.mem mode)).flag .v = (s.operand (.mem mode) s.mw).toNat.testBit (s.mw.bits - 2) := by
  have hn : (s.bit (.mem mode)).flag .n = (s.operand (.mem mode) s.mw).getLsbD (widthTop s.mw) :=
    statusFlag_statusBit ..
  have hv : (s.bit (.mem mode)).flag .v = (s.operand (.mem mode) s.mw).getLsbD (widthTop s.mw - 1) :=
    statusFlag_statusBit ..
  rw [widthTop_eq] at hn hv
  exact ⟨hn, hv⟩

/-- Settles O26: Z by the AND in numbers, N and V by the operand's top bits in the memory forms. -/
theorem bitInstruction : Obligations.BitInstruction := by
  unfold Obligations.BitInstruction
  intro i o s hi m
  have hz : decide (trunc s.mw (s.acc s.mw &&& s.operand o s.mw) = 0) = decide (regValue s.mw s.c &&& m = 0) :=
    decide_eq_decide.mpr (trunc_acc_and_eq_zero_iff s o s.mw)
  refine ⟨s.bit o, exec_dataForm s hi, ?_⟩
  cases o with
  | imm imm => exact ⟨(statusFlag_statusTest ..).trans hz, nofun, fun _ _ => flagsKept_bit_imm s imm, rfl⟩
  | mem mode =>
    obtain ⟨hn, hv⟩ := bit_mem_negative_overflow s mode
    have hkept : FlagsKept s (s.bit (.mem mode)) [.n, .v, .z] := (flagsKept_bit_mem s mode).mono
    exact ⟨(statusFlag_statusBit ..).trans hz, fun _ _ => ⟨hn, hv, hkept⟩, nofun, rfl⟩

end Sys2Proof.Claims
end

section
/-! PROOFS. Decimal arithmetic (R162): the digits below a place already write the decimal sum or difference of the
digits below it, and the digit at the place is added to them. -/

namespace Sys2Proof.Claims

open Sys2Proof.Machine

/-! Numbers written in decimal digits. -/

/-- The `n` hexadecimal digits of `r` are decimal digits, and write the number `v`. -/
structure WritesDecimal (r n v : Nat) : Prop where
  lt : r < 16 ^ n
  digits : ∀ k, k < n → r / 16 ^ k % 16 ≤ 9
  value : decimalValue r n = v

/-- The first digits of a value do not depend on what stands above them. -/
theorem digit_add_mul {k n : Nat} (h : k < n) (r d : Nat) : (r + 16 ^ n * d) / 16 ^ k % 16 = r / 16 ^ k % 16 := by
  obtain ⟨j, rfl⟩ : ∃ j, n = k + (j + 1) := ⟨n - k - 1, by omega⟩
  have hsplit : 16 ^ (k + (j + 1)) * d = 16 ^ k * (16 * (16 ^ j * d)) := by ring
  rw [hsplit, Nat.add_mul_div_left _ _ (Nat.pow_pos (by decide)), Nat.add_mul_mod_self_left]

theorem decimalValue_add_mul {n k : Nat} (h : n ≤ k) (r d : Nat) :
    decimalValue (r + 16 ^ k * d) n = decimalValue r n := by
  induction n with
  | zero => rfl
  | succ n ih => rw [decimalValue, decimalValue, ih (by omega), digit_add_mul h]

theorem WritesDecimal.zero : WritesDecimal 0 0 0 := ⟨by decide, nofun, rfl⟩

/-- A decimal digit put above the others. -/
theorem WritesDecimal.cons {r n v d : Nat} (h : WritesDecimal r n v) (hd : d ≤ 9) :
    WritesDecimal (r + 16 ^ n * d) (n + 1) (v + d * 10 ^ n) := by
  have htop : (r + 16 ^ n * d) / 16 ^ n % 16 = d := by
    rw [Nat.add_mul_div_left _ _ (Nat.pow_pos (by decide)), Nat.div_eq_of_lt h.lt]
    omega
  refine ⟨?_, fun k hk => ?_, ?_⟩
  · have hlt := h.lt
    have hmul : 16 ^ n * d ≤ 16 ^ n * 9 := Nat.mul_le_mul_left _ hd
    rw [pow_succ]
    omega
  · obtain hk | rfl : k < n ∨ k = n := by omega
    · exact digit_add_mul hk r d ▸ h.digits k hk
    · exact htop.trans_le hd
  · rw [decimalValue, htop, decimalValue_add_mul le_rfl, h.value]

/-- Decimal digits write a number below the power of ten. -/
theorem decimalValue_lt {v n : Nat} (h : ∀ k, k < n → v / 16 ^ k % 16 ≤ 9) : decimalValue v n < 10 ^ n := by
  induction n with
  | zero => exact Nat.one_pos
  | succ n ih =>
    have hbelow := ih fun k hk => h k (by omega)
    have htop : v / 16 ^ n % 16 * 10 ^ n ≤ 9 * 10 ^ n := Nat.mul_le_mul_right _ (h n (by omega))
    rw [decimalValue, pow_succ]
    omega

/-! One place of the sum. -/

/-- The digit at a place, where it stands. -/
theorem and_digit (a k : Nat) : a &&& (0xF <<< (4 * k)) = a / 16 ^ k % 16 * 16 ^ k := by
  have hpow : 16 ^ k = 2 ^ (4 * k) := (pow_mul 2 4 k).symm
  calc a &&& (0xF <<< (4 * k)) = ((a >>> (4 * k)) &&& 0xF) <<< (4 * k) := by
        apply Nat.eq_of_testBit_eq
        intro j
        simp only [Nat.testBit_and, Nat.testBit_shiftLeft, Nat.testBit_shiftRight]
        by_cases h : 4 * k ≤ j <;> simp [h]
    _ = a / 16 ^ k % 16 * 16 ^ k := by
        rw [Nat.and_two_pow_sub_one_eq_mod _ 4, Nat.shiftLeft_eq, Nat.shiftRight_eq_div_pow, hpow]

/-- The sum at a place and the digits below it, cut off above the place. -/
theorem place_mod {p r : Nat} (h : r < p) (q : Nat) : (q * p + r) % (16 * p) = r + p * (q % 16) := by
  rw [Nat.mul_comm 16 p, Nat.mod_mul, Nat.mul_add_mod_self_right, Nat.mod_eq_of_lt h, Nat.add_comm (q * p),
    Nat.add_mul_div_right _ _ (by omega), Nat.div_eq_of_lt h, Nat.zero_add]

/-- The digits below a place do not reach the place. -/
theorem le_place_iff {p r : Nat} (h : r < p) (n q : Nat) : n * p ≤ q * p + r ↔ n ≤ q := by
  constructor
  · intro hle
    by_contra hlt
    have := Nat.mul_le_mul_right p (show q + 1 ≤ n by omega)
    rw [Nat.succ_mul] at this
    omega
  · intro hle
    have := Nat.mul_le_mul_right p hle
    omega

/-- What an addition makes of the sum of two digits and a carry: past 9 it skips the digits above 9 (R162). -/
def adjustedSum (q : Nat) : Nat := if 9 < q then q + 6 else q

theorem adjustedSum_place {p r : Nat} (h : r < p) (q : Nat) :
    (if q * p + r > 9 * p + (1 * p - 1) then q * p + r + 6 * p else q * p + r) = adjustedSum q * p + r := by
  have hten := le_place_iff h 10 q
  by_cases hq : 9 < q
  · rw [if_pos (by omega), adjustedSum, if_pos hq, Nat.add_mul]
    omega
  · rw [if_neg (by omega), adjustedSum, if_neg hq]

theorem two_pow_four_mul (k : Nat) : 2 ^ (4 * k) = 16 ^ k := pow_mul 2 4 k

theorem two_pow_four_mul_add_four (k : Nat) : 2 ^ (4 * k + 4) = 16 * 16 ^ k := by
  rw [← Nat.mul_succ, two_pow_four_mul, pow_succ']

/-- One place of `AddDecimal` (R162). -/
theorem addDecimalDigits_succ {a m r k : Nat} {cin c : Bool} (hbelow : addDecimalDigits a m cin k = (r, c))
    (h : r < 16 ^ k) :
    let q := adjustedSum (a / 16 ^ k % 16 + m / 16 ^ k % 16 + c.toNat)
    addDecimalDigits a m cin (k + 1) = (r + 16 ^ k * (q % 16), decide (16 ≤ q)) := by
  simp only [addDecimalDigits, hbelow, and_digit]
  simp only [Nat.shiftLeft_eq, two_pow_four_mul, two_pow_four_mul_add_four, ← Nat.add_mul, adjustedSum_place h,
    place_mod h, ge_iff_le, le_place_iff h]

/-- Two decimal digits and a carry give a decimal digit and a carry of ten. -/
theorem adjustedSum_digit {q : Nat} (h : q ≤ 19) :
    adjustedSum q % 16 ≤ 9 ∧ adjustedSum q % 16 + 10 * (decide (16 ≤ adjustedSum q)).toNat = q := by
  interval_cases q <;> decide

/-- On decimal digits `AddDecimal` writes the decimal sum, and the carry is worth the next power of ten (R162). -/
theorem addDecimalDigits_writes {a m : Nat} (cin : Bool) {n : Nat} (ha : ∀ k, k < n → a / 16 ^ k % 16 ≤ 9)
    (hm : ∀ k, k < n → m / 16 ^ k % 16 ≤ 9) :
    ∃ r c v, addDecimalDigits a m cin n = (r, c) ∧ WritesDecimal r n v ∧
      v + 10 ^ n * c.toNat = decimalValue a n + decimalValue m n + cin.toNat := by
  induction n with
  | zero => exact ⟨0, cin, 0, rfl, .zero, by simp [decimalValue]⟩
  | succ n ih =>
    obtain ⟨r, c, v, hbelow, hwrites, hvalue⟩ := ih (fun k hk => ha k (by omega)) (fun k hk => hm k (by omega))
    have hq : a / 16 ^ n % 16 + m / 16 ^ n % 16 + c.toNat ≤ 19 := by
      have := ha n (by omega)
      have := hm n (by omega)
      have := c.toNat_le
      omega
    obtain ⟨hdigit, hcarry⟩ := adjustedSum_digit hq
    refine ⟨_, _, _, addDecimalDigits_succ hbelow hwrites.lt, hwrites.cons hdigit, ?_⟩
    rw [decimalValue, decimalValue, pow_succ]
    linear_combination hvalue + 10 ^ n * hcarry

/-! One place of the difference. -/

/-- What a subtraction makes of a digit, a complemented digit and a carry: without a carry out it skips the digits
above 9 (R162). -/
def adjustedDifference (q : Nat) : Nat := if q < 16 then q - 6 else q

theorem adjustedDifference_place {p r q : Nat} (h : r < p) (hq : 6 ≤ q) :
    (if ((q * p + r : Nat) : Int) ≤ 16 * p - 1 then ((q * p + r : Nat) : Int) - 6 * p
      else ((q * p + r : Nat) : Int)) = ((adjustedDifference q * p + r : Nat) : Int) := by
  have hsixteen := le_place_iff h 16 q
  by_cases hlt : q < 16
  · rw [if_pos (by omega), adjustedDifference, if_pos hlt, Nat.sub_mul]
    have := Nat.mul_le_mul_right p hq
    omega
  · rw [if_neg (by omega), adjustedDifference, if_neg hlt]

/-- One place of `SubDecimal` (R162). -/
theorem subDecimalDigits_succ {a mc r k : Nat} {cin c : Bool} (hbelow : subDecimalDigits a mc cin k = ((r : Int), c))
    (h : r < 16 ^ k) (hq : 6 ≤ a / 16 ^ k % 16 + mc / 16 ^ k % 16 + c.toNat) :
    let q := adjustedDifference (a / 16 ^ k % 16 + mc / 16 ^ k % 16 + c.toNat)
    subDecimalDigits a mc cin (k + 1) = (((r + 16 ^ k * (q % 16) : Nat) : Int), decide (16 ≤ q)) := by
  have hpow : (2 : Int) ^ (4 * k) = ((16 ^ k : Nat) : Int) := by exact_mod_cast two_pow_four_mul k
  have hpow' : (2 : Int) ^ (4 * k + 4) = 16 * ((16 ^ k : Nat) : Int) := by
    exact_mod_cast two_pow_four_mul_add_four k
  simp only [subDecimalDigits, hbelow, and_digit]
  simp only [Nat.shiftLeft_eq, two_pow_four_mul, ← Nat.add_mul, hpow, hpow', ← Nat.cast_add]
  rw [adjustedDifference_place h hq]
  refine Prod.ext ?_ (decide_eq_decide.mpr ?_)
  · exact_mod_cast congrArg Nat.cast (place_mod h _)
  · have hsixteen := le_place_iff h 16 (adjustedDifference (a / 16 ^ k % 16 + mc / 16 ^ k % 16 + c.toNat))
    omega

/-- A decimal digit less another, ten more and less the borrow, is a decimal digit and a carry of ten. -/
theorem adjustedDifference_digit {q : Nat} (h : 6 ≤ q) (h' : q ≤ 25) :
    adjustedDifference q % 16 ≤ 9 ∧
      adjustedDifference q % 16 + 10 * (decide (16 ≤ adjustedDifference q)).toNat + 6 = q := by
  interval_cases q <;> decide

/-- On decimal digits `SubDecimal`, given the operand's complement, writes the decimal difference, and the carry is
"no borrow", worth the next power of ten (R162). -/
theorem subDecimalDigits_writes {a m mc : Nat} (cin : Bool) {n : Nat} (ha : ∀ k, k < n → a / 16 ^ k % 16 ≤ 9)
    (hm : ∀ k, k < n → m / 16 ^ k % 16 ≤ 9) (hmc : ∀ k, k < n → mc / 16 ^ k % 16 + m / 16 ^ k % 16 = 15) :
    ∃ (r : Nat) (c : Bool) (v : Nat), subDecimalDigits a mc cin n = ((r : Int), c) ∧ WritesDecimal r n v ∧
      v + 10 ^ n * c.toNat + decimalValue m n + 1 = decimalValue a n + 10 ^ n + cin.toNat := by
  induction n with
  | zero => exact ⟨0, cin, 0, rfl, .zero, by simp [decimalValue, Nat.add_comm]⟩
  | succ n ih =>
    obtain ⟨r, c, v, hbelow, hwrites, hvalue⟩ :=
      ih (fun k hk => ha k (by omega)) (fun k hk => hm k (by omega)) (fun k hk => hmc k (by omega))
    have hdigits := hmc n (by omega)
    obtain ⟨hq, hq'⟩ : 6 ≤ a / 16 ^ n % 16 + mc / 16 ^ n % 16 + c.toNat ∧
        a / 16 ^ n % 16 + mc / 16 ^ n % 16 + c.toNat ≤ 25 := by
      have := ha n (by omega)
      have := hm n (by omega)
      have := c.toNat_le
      omega
    obtain ⟨hdigit, hcarry⟩ := adjustedDifference_digit hq hq'
    refine ⟨_, _, _, subDecimalDigits_succ hbelow hwrites.lt hq, hwrites.cons hdigit, ?_⟩
    rw [decimalValue, decimalValue, pow_succ]
    linear_combination hvalue + 10 ^ n * hcarry + 10 ^ n * hdigits

/-- The digits of the complement are those of the operand, each from 15 (R164). -/
theorem complement_digit {m n k : Nat} (hm : m < 16 ^ n) (hk : k < n) :
    (16 ^ n - 1 - m) / 16 ^ k % 16 + m / 16 ^ k % 16 = 15 := by
  obtain ⟨j, rfl⟩ : ∃ j, n = k + (j + 1) := ⟨n - k - 1, by omega⟩
  rw [pow_add, pow_succ'] at hm ⊢
  have hlt : m / 16 ^ k < 16 * 16 ^ j := Nat.div_lt_of_lt_mul hm
  rw [Nat.sub_sub, Nat.add_comm 1 m, Nat.mul_sub_div _ _ _ hm]
  omega

/-! `ADC` and `SBC` in decimal. -/

theorem two_pow_bits (w : Width) : 2 ^ w.bits = 16 ^ digitCount w := by cases w <;> rfl

theorem isDecimal_of_allDigits {w : Width} {v : Word} (h : AllDigits w v.toNat) : isDecimal w v = true := by
  simpa [isDecimal, AllDigits, digitCount] using h

/-- `AddDecimal` of decimal operands, in the width. -/
theorem addDecimal_writes {w : Width} {a m : Word} (cin : Bool) (ha : AllDigits w a.toNat) (hm : AllDigits w m.toNat) :
    ∃ r c v, addDecimal w a m cin = (BitVec.ofNat 16 r, c) ∧ WritesDecimal r (digitCount w) v ∧
      v + 10 ^ digitCount w * c.toNat =
        decimalValue a.toNat (digitCount w) + decimalValue m.toNat (digitCount w) + cin.toNat := by
  obtain ⟨r, c, v, hdigits, hwrites, hvalue⟩ := addDecimalDigits_writes cin ha hm
  exact ⟨r, c, v, by rw [addDecimal, ← digitCount, hdigits], hwrites, hvalue⟩

/-- `SubDecimal` of decimal operands, the second complemented, in the width: the carry in is "no borrow". -/
theorem subDecimal_writes {w : Width} {a m : Word} (cin : Bool) (ha : AllDigits w a.toNat) (hm : AllDigits w m.toNat)
    (hlt : m.toNat < 2 ^ w.bits) :
    let less := decimalValue m.toNat (digitCount w) + (1 - cin.toNat)
    ∃ r c v, subDecimal w a (complement w m) cin = (BitVec.ofNat 16 r, c) ∧ WritesDecimal r (digitCount w) v ∧
      less ≤ 10 ^ digitCount w ∧
      v + 10 ^ digitCount w * c.toNat = decimalValue a.toNat (digitCount w) + 10 ^ digitCount w - less := by
  intro less
  have hmc : ∀ k, k < digitCount w → (complement w m).toNat / 16 ^ k % 16 + m.toNat / 16 ^ k % 16 = 15 := by
    intro k hk
    rw [toNat_complement w m hlt, two_pow_bits]
    exact complement_digit (two_pow_bits w ▸ hlt) hk
  obtain ⟨r, c, v, hdigits, hwrites, hvalue⟩ := subDecimalDigits_writes cin ha hm hmc
  have hdec : subDecimal w a (complement w m) cin = (BitVec.ofNat 16 r, c) := by
    rw [subDecimal, ← digitCount, hdigits, BitVec.ofInt_natCast]
  have hvm : decimalValue m.toNat (digitCount w) < 10 ^ digitCount w := decimalValue_lt hm
  have hcin := cin.toNat_le
  exact ⟨r, c, v, hdec, hwrites, by omega, by omega⟩

theorem sum_of_bcd {s : State} (hd : s.flag .d = true) (hm : s.config.decimalMode = .bcd) (w : Width) (a m : Word)
    (bin : SumResult) (dec : Word × Bool) : s.sum w a m bin dec =
      .next { s.applySum w (s.decimalResult w a m dec) with freeCounter := s.freeCounter + 1 } := by
  simp [State.sum, hd, hm]

/-- What any result leaves, applied with a free value drawn. -/
theorem afterDecimal_applySum (s : State) (r : SumResult) (n : Nat) :
    AfterDecimal s { s.applySum s.mw r with freeCounter := n } (regValue s.mw r.value) where
  acc := accHolds_withAcc rfl
  nz := showsNZ_statusNZ rfl
  kept := flagsKept_applySum s s.mw r
  frame := rfl

/-- Settles O23: on any digits a result is applied, computed or free. -/
theorem decimalRunsOnAnyDigits : Obligations.DecimalRunsOnAnyDigits := by
  unfold Obligations.DecimalRunsOnAnyDigits
  intro i o s hd hm hi
  obtain hi | hi := hi <;>
    exact ⟨_, _, (exec_dataForm s hi).trans (sum_of_bcd hd hm ..), afterDecimal_applySum s _ _⟩

/-- A decimal result whose carry is worth the next power of ten, applied: the total modulo that power, and the carry
for the rest of it. -/
theorem sum_of_digits {s : State} (hd : s.flag .d = true) (hm : s.config.decimalMode = .bcd) {a m : Word}
    (ha : AllDigits s.mw a.toNat) (hdm : AllDigits s.mw m.toNat) (bin : SumResult) {r v total : Nat} {c : Bool}
    (hr : WritesDecimal r (digitCount s.mw) v) (htotal : v + 10 ^ digitCount s.mw * c.toNat = total) :
    ∃ t r', s.sum s.mw a m bin (BitVec.ofNat 16 r, c) = .next t ∧ AfterDecimal s t r' ∧ AllDigits s.mw r' ∧
      decimalValue r' (digitCount s.mw) = total % 10 ^ digitCount s.mw ∧
      t.flag .c = decide (10 ^ digitCount s.mw ≤ total) := by
  have hresult : s.decimalResult s.mw a m (BitVec.ofNat 16 r, c) =
      { value := BitVec.ofNat 16 r, carry := c, overflow := Config.freeDecimalOverflow s.freeCounter } := by
    simp [State.decimalResult, isDecimal_of_allDigits ha, isDecimal_of_allDigits hdm]
  have hreg : regValue s.mw (BitVec.ofNat 16 r) = r := by
    rw [regValue_ofNat, two_pow_bits, Nat.mod_eq_of_lt hr.lt]
  have hv : v < 10 ^ digitCount s.mw := hr.value ▸ decimalValue_lt hr.digits
  rw [sum_of_bcd hd hm, hresult]
  refine ⟨_, _, rfl, afterDecimal_applySum s _ _, ?_, ?_, ?_⟩
  · rw [hreg]
    exact hr.digits
  · rw [hreg, hr.value, ← htotal, Nat.add_mul_mod_self_left, Nat.mod_eq_of_lt hv]
  · refine (flag_c_applySum s s.mw _).trans ?_
    cases c with
    | false =>
      rw [Bool.toNat_false] at htotal
      exact (decide_eq_false (by omega)).symm
    | true =>
      rw [Bool.toNat_true] at htotal
      exact (decide_eq_true (by omega)).symm

/-- Settles O22: the digits write the sum, or with the complement the difference, and are applied. -/
theorem decimalArithmetic : Obligations.DecimalArithmetic := by
  unfold Obligations.DecimalArithmetic
  intro i o s hd hmode w n a
  have hacc : (s.acc s.mw).toNat = a := toNat_acc s w
  rw [← hacc]
  constructor
  · intro hi ha hm total
    obtain ⟨r, c, v, hdec, hwrites, hvalue⟩ := addDecimal_writes (m := s.operand o s.mw) (s.flag .c) ha hm
    rw [exec_dataForm s hi, dataMeaning, State.adc, hdec]
    exact sum_of_digits hd hmode ha hm _ hwrites hvalue
  · intro hi ha hm less
    obtain ⟨r, c, v, hdec, hwrites, hless, hvalue⟩ :=
      subDecimal_writes (m := s.operand o s.mw) (s.flag .c) ha hm (operand_lt s o s.mw)
    obtain ⟨t, r', hnext, hafter, hdigits, hdifference, hcarry⟩ :=
      sum_of_digits hd hmode ha hm (addBinary s.mw _ (complement s.mw (s.operand o s.mw)) (s.flag .c)) hwrites hvalue
    rw [exec_dataForm s hi, dataMeaning, State.sbc, hdec]
    have hborrow : 10 ^ n ≤ decimalValue (s.acc s.mw).toNat n + 10 ^ n - less ↔
        less ≤ decimalValue (s.acc s.mw).toNat n := by
      have hless' : less ≤ 10 ^ n := hless
      omega
    exact ⟨t, r', hnext, hafter, hdigits, hdifference, hcarry.trans (decide_eq_decide.mpr hborrow)⟩

end Sys2Proof.Claims
end

section
/-! PROOFS. What an operand is (R68, R93, R160). -/

namespace Sys2Proof.Claims

open Sys2Proof.Machine

/-- The bytes of an instruction with an immediate are its opcode byte and the immediate (R92). -/
theorem encode_of_immediate {i : Instr} {op : DataOp} {imm : Immediate} (hi : i.dataForm = some (op, .imm imm)) :
    ∃ opcode, encode i = opcode :: immediateBytes imm := by
  cases i <;> cases hi <;> exact ⟨_, rfl⟩

/-- A well-formed immediate has the width in which its instruction reads (R71, R93). -/
theorem wellFormed_of_immediate {i : Instr} {op : DataOp} {imm : Immediate} (s : State)
    (hi : i.dataForm = some (op, .imm imm)) :
    ∃ eightBit, dataWidth s op = widthOf eightBit ∧ i.wellFormed s.decodeContext = imm.fits eightBit := by
  cases i <;> cases hi <;> exact ⟨_, rfl, rfl⟩

/-- The immediate of the instruction at `PB:PC` is the byte or the word after the opcode, by the width (R93). -/
theorem immediate_of_nextInstr {s : State} {op : DataOp} {imm : Immediate}
    (hi : s.nextInstr.1.dataForm = some (op, .imm imm)) :
    (dataWidth s op = .byte ∧ imm = .byte (s.codeByte 1)) ∨
      (dataWidth s op = .word ∧ imm = .word (word16 (s.codeByte 1) (s.codeByte 2))) := by
  obtain ⟨opcode, henc⟩ := encode_of_immediate hi
  have hbytes : immediateBytes imm <+: [s.codeByte 1, s.codeByte 2, s.codeByte 3] := by
    have htail := (List.cons.inj (henc.symm.trans (encode_decodeBytes ..))).2
    exact htail ▸ List.take_prefix _ _
  obtain ⟨eightBit, hw, hfits⟩ := wellFormed_of_immediate s hi
  have hwf : s.nextInstr.1.wellFormed s.decodeContext = true := wellFormed_decodeBytes ..
  rw [hfits] at hwf
  rw [hw]
  cases imm with
  | byte v =>
    obtain ⟨rfl, -⟩ := List.cons_prefix_cons.mp hbytes
    exact .inl ⟨(widthOf_eq_byte _).mpr hwf, rfl⟩
  | word v =>
    obtain ⟨hlow, hrest⟩ := List.cons_prefix_cons.mp hbytes
    obtain ⟨hhigh, -⟩ := List.cons_prefix_cons.mp hrest
    obtain rfl : eightBit = false := by simpa [Immediate.fits] using hwf
    exact .inr ⟨rfl, by rw [← hlow, ← hhigh, word16_low_high]⟩

/-- Settles O27: the immediate is that of the decoded bytes, and a memory operand is read byte by byte. -/
theorem operandIsRead : Obligations.OperandIsRead := by
  unfold Obligations.OperandIsRead
  refine ⟨fun s op imm hi => ?_, fun s op mode => toNat_memData s.mem (s.ea mode) (dataWidth s op)⟩
  obtain ⟨hw, rfl⟩ | ⟨hw, rfl⟩ := immediate_of_nextInstr hi
  · have hlt := (s.codeByte 1).isLt
    simp only [operandValue, State.operand, hw, immediateValue, toNat_trunc, BitVec.toNat_setWidth, Width.bits,
      reduceCtorEq, if_false]
    omega
  · simp only [operandValue, State.operand, hw, immediateValue, trunc_word, toNat_word16, if_true]

end Sys2Proof.Claims
end

section
/-! PROOFS. Shifts, rotates, increments, decrements, test-and-set in numbers (R190 to R202): what a store and a
read-modify-write leave is said once for any value, and each function's value once for both targets. -/

namespace Sys2Proof.Claims

open Sys2Proof.Machine

/-! Stores. -/

/-- A store of a width leaves the value seen in that width, low byte first, and every other byte (R65, R68). -/
theorem stored_memPutData {s t : State} {a : Addr} {w : Width} {v : Word} (h : t.mem = memPutData s.mem a w v) :
    Stored s t a w (regValue w v) where
  low := by
    rw [h]
    cases w with
    | byte =>
      rw [memPutData, memByte_memPutByte_same, toNat_lowByte]
      exact (Nat.mod_mod _ _).symm
    | word => rw [memPutData, memByte_memPutWord_low, toNat_lowByte, regValue_of_lt v.isLt]
  high hw := by
    have hhigh : memByte (memPutData s.mem a .word v) (a + 1) = highByte v := memByte_memPutWord_high s.mem a v
    have hlt := v.isLt
    rw [h, hw, hhigh, toNat_highByte, regValue_of_lt hlt]
    omega
  others b hb hb1 := by rw [h, memByte_memPutData_ne s.mem w v hb hb1]

/-! What a read-modify-write reads and leaves (R190). -/

theorem targetValue_lt (s : State) (target : RmwTarget) : targetValue s target < 2 ^ s.mw.bits := by
  cases target with
  | acc => exact regValue_lt s.mw s.c
  | mem mode => exact (toNat_memData s.mem (s.ea mode) s.mw).symm.trans_lt (memData_lt s.mem (s.ea mode) s.mw)

/-- `Modify` applies its function to the target's value, leaves the result there, and shows it in the status. -/
theorem modify_modified (s : State) (f : Width → Bool → Word → ModifyResult) (target : RmwTarget) :
    ∃ v : Word, v.toNat = targetValue s target ∧
      let r := f s.mw (s.flag .c) v
      Modified s (s.modify f target) (regValue s.mw r.value) target ∧
        (s.modify f target).p = statusModify s.p s.mw r := by
  cases target with
  | acc => exact ⟨s.acc s.mw, toNat_acc s s.mw, ⟨accHolds_withAcc rfl, rfl⟩, rfl⟩
  | mem mode =>
    exact ⟨memData s.mem (s.ea mode) s.mw, toNat_memData s.mem (s.ea mode) s.mw, ⟨stored_memPutData rfl, rfl⟩,
      rfl⟩

theorem showsNZ_statusModify {t : State} {p : Byte} {w : Width} {r : ModifyResult} (h : t.p = statusModify p w r) :
    ShowsNZ t w (regValue w r.value) := showsNZ_statusNZ h

theorem flag_c_statusModify {t : State} {p : Byte} {w : Width} {r : ModifyResult} {carry : Bool}
    (h : t.p = statusModify p w r) (hr : r.carry = some carry) : t.flag .c = carry := by
  simp [State.flag, h, statusFlag_statusModify, hr]

/-! The shifts and rotates (R191 to R194). -/

/-- Seen in a width, a sum modulo the word is the sum modulo the width. -/
theorem mod_word_mod (w : Width) (n : Nat) : n % 2 ^ 16 % 2 ^ w.bits = n % 2 ^ w.bits :=
  Nat.mod_mod_of_dvd n (Nat.pow_dvd_pow 2 (by cases w <;> decide))

theorem regValue_trunc (w : Width) (v : Word) : regValue w (trunc w v) = (trunc w v).toNat :=
  regValue_of_lt (trunc_lt w v)

/-- The carry shifted in from below is added to the double. -/
theorem toNat_shiftLeft_or_carry (v : Word) (cin : Bool) :
    ((v <<< 1) ||| (if cin then 1 else 0 : Word)).toNat = (2 * v.toNat + cin.toNat) % 2 ^ 16 := by
  have hcin : (if cin then 1 else 0 : Word).toNat = cin.toNat % 2 ^ 16 := by cases cin <;> rfl
  rw [BitVec.toNat_or, BitVec.toNat_shiftLeft, hcin, ← Nat.or_mod_two_pow,
    ← Nat.shiftLeft_add_eq_or_of_lt cin.toNat_lt, Nat.shiftLeft_eq, pow_one, Nat.mul_comm]

theorem regValue_rolValue (w : Width) (cin : Bool) (v : Word) :
    regValue w (rolValue w cin v).value = (2 * v.toNat + cin.toNat) % 2 ^ w.bits := by
  rw [rolValue, regValue_trunc, toNat_trunc, toNat_shiftLeft_or_carry]
  exact mod_word_mod w _

/-- The carry enters above the half, whose bits are all below the sign bit. -/
theorem regValue_rorValue {w : Width} (cin : Bool) {v : Word} (hv : v.toNat < 2 ^ w.bits) :
    regValue w (rorValue w cin v).value = v.toNat / 2 + cin.toNat * 2 ^ (w.bits - 1) := by
  have hcin : (if cin then widthSign w else 0 : Word).toNat = cin.toNat <<< (w.bits - 1) := by
    cases w <;> cases cin <;> rfl
  have hhalf : v.toNat / 2 < 2 ^ (w.bits - 1) := by cases w <;> simp only [Width.bits] at * <;> omega
  have hvalue : (rorValue w cin v).value.toNat = v.toNat / 2 + cin.toNat * 2 ^ (w.bits - 1) := by
    rw [rorValue, BitVec.toNat_or, hcin, BitVec.toNat_ushiftRight, Nat.shiftRight_eq_div_pow, pow_one, Nat.lor_comm,
      ← Nat.shiftLeft_add_eq_or_of_lt hhalf, Nat.shiftLeft_eq, Nat.add_comm]
  have hcarry := cin.toNat_le
  rw [regValue_of_lt, hvalue]
  rw [hvalue]
  cases w <;> simp only [Width.bits] at * <;> omega

/-- A shift is the rotate through a clear carry. -/
theorem aslValue_eq_rolValue (w : Width) (v : Word) : aslValue w v = rolValue w false v := by
  simp [aslValue, rolValue]

theorem lsrValue_eq_rorValue (w : Width) (v : Word) : lsrValue v = rorValue w false v := by
  simp [lsrValue, rorValue]

theorem regValue_aslValue (w : Width) (v : Word) : regValue w (aslValue w v).value = 2 * v.toNat % 2 ^ w.bits := by
  rw [aslValue_eq_rolValue, regValue_rolValue, Bool.toNat_false, Nat.add_zero]

theorem regValue_lsrValue {w : Width} {v : Word} (hv : v.toNat < 2 ^ w.bits) :
    regValue w (lsrValue v).value = v.toNat / 2 := by
  rw [lsrValue_eq_rorValue w, regValue_rorValue false hv, Bool.toNat_false, Nat.zero_mul, Nat.add_zero]

theorem getLsbD_zero_eq_odd (v : Word) : v.getLsbD 0 = decide (v.toNat % 2 = 1) := by
  rw [BitVec.getLsbD, Nat.testBit_zero]

/-- Each shift or rotate of a value in the width, in numbers. -/
theorem modifyFunction_shift {op : RmwOp} {w : Width} {cin : Bool} {v : Word} {r : Nat} {carry : Bool}
    (hv : v.toNat < 2 ^ w.bits) (h : shiftResult w cin.toNat v.toNat op = some (r, carry)) :
    regValue w (modifyFunction op w cin v).value = r ∧ (modifyFunction op w cin v).carry = some carry := by
  have htop := congrArg some (getLsbD_widthTop w v hv)
  have hodd := congrArg some (getLsbD_zero_eq_odd v)
  cases op with
  | asl =>
    cases h
    exact ⟨regValue_aslValue w v, htop⟩
  | lsr =>
    cases h
    exact ⟨regValue_lsrValue hv, hodd⟩
  | rol =>
    cases h
    exact ⟨regValue_rolValue w cin v, htop⟩
  | ror =>
    cases h
    exact ⟨regValue_rorValue cin hv, hodd⟩
  | inc | dec => cases h

theorem mem_shifts_of_shiftResult {op : RmwOp} {w : Width} {cin v : Nat} {result : Nat × Bool}
    (h : shiftResult w cin v op = some result) : op ∈ [RmwOp.asl, .lsr, .rol, .ror] := by
  cases op with
  | asl | lsr | rol | ror => decide
  | inc | dec => cases h

/-- Settles O30: the function's result in numbers, left in the target and shown in N, Z and C. -/
theorem shiftsAndRotates : Obligations.ShiftsAndRotates := by
  unfold Obligations.ShiftsAndRotates
  intro i op target s r carry hi hr
  obtain ⟨v, hv, hmodified, hp⟩ := modify_modified s (modifyFunction op) target
  rw [← hv] at hr
  obtain ⟨rfl, hcarry⟩ := modifyFunction_shift (hv ▸ targetValue_lt s target) hr
  have hkept := flagsKept_modify s op target
  rw [if_pos (mem_shifts_of_shiftResult hr)] at hkept
  exact ⟨_, exec_rmwForm s hi, hmodified, flag_c_statusModify hp hcarry, showsNZ_statusModify hp, hkept⟩

/-! The increments and decrements (R195 to R200). -/

theorem toNat_trunc_add_one (w : Width) (v : Word) : (trunc w (v + 1)).toNat = (v.toNat + 1) % 2 ^ w.bits := by
  rw [toNat_trunc, BitVec.toNat_add]
  exact mod_word_mod w _

theorem toNat_trunc_sub_one (w : Width) (v : Word) :
    (trunc w (v - 1)).toNat = (v.toNat + (2 ^ w.bits - 1)) % 2 ^ w.bits := by
  have hone : (1 : Word).toNat = 1 := rfl
  rw [toNat_trunc, BitVec.toNat_sub, hone]
  cases w <;> simp only [Width.bits] <;> omega

/-- `INC` and `DEC` of a value, in numbers. -/
theorem modifyFunction_count {op : RmwOp} {w : Width} {cin : Bool} {v : Word} {r : Nat}
    (h : countResult w v.toNat op = some r) : regValue w (modifyFunction op w cin v).value = r := by
  cases op with
  | inc =>
    cases h
    exact (regValue_trunc w _).trans (toNat_trunc_add_one w v)
  | dec =>
    cases h
    rw [Nat.add_sub_assoc Nat.one_le_two_pow]
    exact (regValue_trunc w _).trans (toNat_trunc_sub_one w v)
  | asl | lsr | rol | ror => cases h

theorem not_mem_shifts_of_countResult {op : RmwOp} {w : Width} {v r : Nat} (h : countResult w v op = some r) :
    op ∉ [RmwOp.asl, .lsr, .rol, .ror] := by
  cases op with
  | inc | dec => decide
  | asl | lsr | rol | ror => cases h

/-- What a load of an index register shows in N and Z is the value it leaves there (R10, R23). -/
theorem showsNZ_loadX (s : State) (v : Word) : ShowsNZ (s.loadX v) s.xw (s.loadX v).x.toNat :=
  (toNat_trunc s.xw v).symm ▸ showsNZ_statusNZ rfl

theorem showsNZ_loadY (s : State) (v : Word) : ShowsNZ (s.loadY v) s.xw (s.loadY v).y.toNat :=
  (toNat_trunc s.xw v).symm ▸ showsNZ_statusNZ rfl

/-- `INX` and `DEX` leave one more or one less in the index width and show it (R197, R199). -/
theorem stepX_counts (s : State) (delta : Word) {n : Nat} (hn : (trunc s.xw (s.x + delta)).toNat = n) :
    (s.stepX delta).x.toNat = n ∧ ShowsNZ (s.stepX delta) s.xw (s.stepX delta).x.toNat ∧
      FlagsKept s (s.stepX delta) [.n, .z] ∧
      s.stepX delta = { s with x := (s.stepX delta).x, p := (s.stepX delta).p } :=
  ⟨(congrArg BitVec.toNat (trunc_trunc s.xw _)).trans hn, showsNZ_loadX s _, flagsKept_statusNZ rfl, rfl⟩

/-- `INY` and `DEY` likewise (R198, R200). -/
theorem stepY_counts (s : State) (delta : Word) {n : Nat} (hn : (trunc s.xw (s.y + delta)).toNat = n) :
    (s.stepY delta).y.toNat = n ∧ ShowsNZ (s.stepY delta) s.xw (s.stepY delta).y.toNat ∧
      FlagsKept s (s.stepY delta) [.n, .z] ∧
      s.stepY delta = { s with y := (s.stepY delta).y, p := (s.stepY delta).p } :=
  ⟨(congrArg BitVec.toNat (trunc_trunc s.xw _)).trans hn, showsNZ_loadY s _, flagsKept_statusNZ rfl, rfl⟩

/-- Settles O31: a read-modify-write for the accumulator and memory, a load of the counted value for the index
registers. -/
theorem incrementsAndDecrements : Obligations.IncrementsAndDecrements := by
  unfold Obligations.IncrementsAndDecrements
  simp only [List.forall_mem_cons, if_true, reduceCtorEq, if_false]
  refine ⟨fun i op target s r hi hr => ?_, fun s => ⟨?inx, ?dex, List.forall_mem_nil _⟩,
    fun s => ⟨?iny, ?dey, List.forall_mem_nil _⟩⟩
  · obtain ⟨v, hv, hmodified, hp⟩ := modify_modified s (modifyFunction op) target
    rw [← hv] at hr
    obtain rfl := modifyFunction_count (cin := s.flag .c) hr
    have hkept := flagsKept_modify s op target
    rw [if_neg (not_mem_shifts_of_countResult hr)] at hkept
    exact ⟨_, exec_rmwForm s hi, hmodified, showsNZ_statusModify hp, hkept⟩
  case inx => exact ⟨_, rfl, stepX_counts s 1 (toNat_trunc_add_one s.xw s.x)⟩
  case dex => exact ⟨_, rfl, stepX_counts s (-1) (BitVec.sub_eq_add_neg s.x 1 ▸ toNat_trunc_sub_one s.xw s.x)⟩
  case iny => exact ⟨_, rfl, stepY_counts s 1 (toNat_trunc_add_one s.xw s.y)⟩
  case dey => exact ⟨_, rfl, stepY_counts s (-1) (BitVec.sub_eq_add_neg s.y 1 ▸ toNat_trunc_sub_one s.xw s.y)⟩

/-! Test and set bits (R201, R202). -/

/-- The bits of one value that are not in another, in numbers. -/
theorem toNat_and_not (v a : Word) : (v &&& ~~~a).toNat = Nat.ldiff v.toNat a.toNat := by
  apply Nat.eq_of_testBit_eq
  intro k
  rw [Nat.testBit_ldiff, BitVec.testBit_toNat, BitVec.testBit_toNat, BitVec.testBit_toNat, BitVec.getLsbD_and,
    BitVec.getLsbD_not]
  by_cases hk : k < 16
  · simp [hk]
  · simp [BitVec.getLsbD_of_ge v k (by omega)]

/-- `TSB` stores the old value with the bits of `A` (R201). -/
theorem testBits_tsb_stored (s : State) (mode : AddrMode) :
    Stored s (s.testBits (testFunction .tsb) mode) (s.ea mode) s.mw
      (dataAt s (s.ea mode) s.mw ||| regValue s.mw s.c) := by
  have hlt := Nat.or_lt_two_pow (memData_lt s.mem (s.ea mode) s.mw) (trunc_lt s.mw s.c)
  rw [← BitVec.toNat_or] at hlt
  have hvalue := regValue_of_lt hlt
  rw [BitVec.toNat_or, toNat_memData, toNat_trunc] at hvalue
  exact hvalue ▸ stored_memPutData rfl

/-- `TRB` stores the old value without the bits of `A` (R202). -/
theorem testBits_trb_stored (s : State) (mode : AddrMode) :
    Stored s (s.testBits (testFunction .trb) mode) (s.ea mode) s.mw
      (Nat.ldiff (dataAt s (s.ea mode) s.mw) (regValue s.mw s.c)) := by
  have hle := Nat.and_le_left (n := (memData s.mem (s.ea mode) s.mw).toNat) (m := (~~~s.acc s.mw).toNat)
  rw [← BitVec.toNat_and] at hle
  have hvalue := regValue_of_lt (hle.trans_lt (memData_lt s.mem (s.ea mode) s.mw))
  rw [toNat_and_not, toNat_memData, toNat_acc] at hvalue
  exact hvalue ▸ stored_memPutData rfl

/-- Settles O32: the store of the combined value; Z is that of `BIT` on the old one. -/
theorem testAndSetBits : Obligations.TestAndSetBits := by
  unfold Obligations.TestAndSetBits
  intro i op mode s hi w a v
  have hv : (s.operand (.mem mode) w).toNat = v := toNat_memData s.mem (s.ea mode) w
  have hzero := trunc_acc_and_eq_zero_iff s (.mem mode) w
  rw [hv] at hzero
  refine ⟨_, exec_testForm s hi, ?_, ?_, flagsKept_testBits s _ mode, rfl⟩
  · cases op with
    | tsb => exact testBits_tsb_stored s mode
    | trb => exact testBits_trb_stored s mode
  · exact (statusFlag_statusTest ..).trans (decide_eq_decide.mpr hzero)

end Sys2Proof.Claims
end

section
/-! PROOFS. Control transfer (R220 to R240): what the pulls read and what they give back after a push, in the words of
the statements, then branches, jumps, calls, returns, `BRK`, `COP` and `RTI`, and a return straight after its call. -/

namespace Sys2Proof.Claims

open Sys2Proof.Machine

/-! Pulls (R262, R263). -/

theorem pulled_sp_eq_stackMoved (s : State) : s.pulled.sp = stackMoved s 1 :=
  (stackMoved_eq_stackMove s 1).symm

/-- A move of the stack pointer after a pull is one byte longer before it. -/
theorem stackMoved_pulled (s : State) (n : Int) : stackMoved s.pulled n = stackMoved s (1 + n) := by
  rw [stackMoved_eq_stackMove, pulled_sp_eq_stackMoved]
  exact stackMove_stackMoved s 1 n

theorem pulled_pulled_sp_eq_stackMoved (s : State) : s.pulled.pulled.sp = stackMoved s 2 := by
  rw [pulled_sp_eq_stackMoved, stackMoved_pulled]
  rfl

theorem pulled_pulled_pulled_sp_eq_stackMoved (s : State) : s.pulled.pulled.pulled.sp = stackMoved s 3 := by
  rw [pulled_pulled_sp_eq_stackMoved, stackMoved_pulled]
  rfl

/-- What comes after `k` bytes when one is pulled comes after `k + 1`. -/
theorem pulledByte_pulled (s : State) (k : Nat) : pulledByte s.pulled k = pulledByte s (k + 1) := by
  rw [pulledByte, pulledByte, stackMoved_pulled, Nat.cast_add_one, Int.add_comm 1]
  rfl

theorem pulledWord_pulled (s : State) (k : Nat) : pulledWord s.pulled k = pulledWord s (k + 1) := by
  rw [pulledWord, pulledWord, pulledByte_pulled, pulledByte_pulled]

theorem pull8_eq_pulledByte (s : State) : s.pull8 = pulledByte s 0 := by
  rw [State.pull8, pulled_sp_eq_stackMoved]
  rfl

theorem pull16_eq_pulledWord (s : State) : s.pull16 = pulledWord s 0 := by
  rw [State.pull16, pull8_eq_pulledByte, pull8_eq_pulledByte, pulledByte_pulled]
  rfl

/-! Pulls after pushes. -/

/-- Moving back past pushed bytes undoes the push's own move. -/
theorem Pushed.stackMoved_eq {s t : State} {bytes : List Byte} (h : Pushed s t bytes) (he : t.e = s.e) (n : Int) :
    stackMoved t n = stackMoved s (-(bytes.length : Int) + n) := by
  rw [stackMoved_eq_stackMove, he, h.pointer, stackMove_stackMoved]

/-- The stack pointer is back once as many bytes are pulled as were pushed. -/
theorem Pushed.stackMoved_length {s t : State} {bytes : List Byte} (h : Pushed s t bytes) (he : t.e = s.e) :
    stackMoved t bytes.length = s.sp := by
  rw [h.stackMoved_eq he, Int.add_left_neg, stackMoved_zero]

/-- The byte pushed before `k` others is the one pulled after those `k`. -/
theorem Pushed.pulledByte_eq {s t : State} {bytes : List Byte} (h : Pushed s t bytes) (he : t.e = s.e) {j k : Nat}
    (hlen : j + k + 1 = bytes.length) : pulledByte t k = bytes[j] := by
  have hslot : -(bytes.length : Int) + ((k : Int) + 1) = -(j : Int) := by omega
  rw [pulledByte, h.stackMoved_eq he, hslot]
  exact h.slots j (by omega)

/-- A word pushed last, high byte first, is the word pulled first. -/
theorem Pushed.pulledWord_eq {s t : State} {bytes : List Byte} {v : Word}
    (h : Pushed s t (bytes ++ [highByte v, lowByte v])) (he : t.e = s.e) : pulledWord t 0 = v := by
  have hlow : pulledByte t 0 = lowByte v := by
    rw [h.pulledByte_eq he (j := bytes.length + 1) (by simp)]
    simp
  have hhigh : pulledByte t 1 = highByte v := by
    rw [h.pulledByte_eq he (j := bytes.length) (by simp)]
    simp
  rw [pulledWord, hlow, hhigh, word16_low_high]

/-! Branches and jumps. -/

theorem branchTaken_iff (s : State) (cond : BranchCond) : s.branchTaken cond = true ↔ branchHolds s cond := by
  cases cond <;> simp [State.branchTaken, branchHolds]

/-- The target of a short branch wraps in the bank (R140). -/
theorem toNat_relTarget (s : State) (rel : Byte) :
    ((s.relTarget rel).toNat : Int) = ((s.pc.toNat : Int) + rel.toInt) % 65536 := by
  have hrel : ((rel.signExtend 16).toNat : Int) = rel.toInt % 65536 := by
    rw [BitVec.signExtend, BitVec.toNat_ofInt]
    omega
  rw [State.relTarget, BitVec.toNat_add]
  omega

/-- Settles O33: the model's predicate is the statement's, and the target its sum. -/
theorem branches : Obligations.Branches := by
  unfold Obligations.Branches
  intro i cond rel s hi
  refine ⟨_, exec_branchForm s hi, fun htaken => ?_, fun hnot => ?_, rfl⟩
  · rw [State.branch, if_pos ((branchTaken_iff s cond).mpr htaken)]
    exact toNat_relTarget s rel
  · exact if_neg (mt (branchTaken_iff s cond).mp hnot)

theorem byteAt_addr24 (s : State) (bank : Byte) (offset : Word) :
    byteAt s (65536 * bank.toNat + offset.toNat) = (memByte s.mem (addr24 bank offset)).toNat := by
  rw [byteAt, ← toNat_addr24, BitVec.ofNat_toNat, BitVec.setWidth_eq]

/-- The pointer of `JMP (a,X)` and `JSR (a,X)` wraps in the program bank (R144). -/
theorem toNat_indexedTarget (s : State) (a : Word) : (s.indexedTarget a).toNat =
    byteAt s (65536 * s.pb.toNat + (a.toNat + s.x.toNat) % 65536) +
      256 * byteAt s (65536 * s.pb.toNat + (a.toNat + s.x.toNat + 1) % 65536) := by
  have hlow : (a.toNat + s.x.toNat) % 65536 = (a + s.x).toNat := (BitVec.toNat_add a s.x).symm
  have hhigh : (a.toNat + s.x.toNat + 1) % 65536 = (a + s.x + 1).toNat := by simp [BitVec.toNat_add]
  rw [hlow, hhigh, byteAt_addr24, byteAt_addr24]
  exact toNat_word16 _ _

/-- Settles O34: each jump writes its target, and each target is the sum or the pointer of its resolver. -/
theorem jumps : Obligations.Jumps := by
  unfold Obligations.Jumps
  intro s a rel al
  exact ⟨⟨_, rfl, BitVec.toNat_add s.pc rel, rfl⟩, ⟨_, rfl, rfl, rfl⟩, ⟨_, rfl, toNat_memWord0 s a, rfl⟩,
    ⟨_, rfl, toNat_indexedTarget s a, rfl⟩, ⟨_, rfl, toNat_bankOf_offsetOf al, rfl⟩,
    ⟨_, rfl, (toNat_bankOf_offsetOf _).trans (toNat_memLong0 s a), rfl⟩⟩

/-! Calls and returns. -/

/-- `JSR` pushes the address of its last byte (R233). -/
theorem pushed_call (s : State) (target : Word) :
    Pushed s (s.call target) [highByte (s.pc - 1), lowByte (s.pc - 1)] := by
  obtain ⟨slots, others, pointer⟩ := (Pushed.nil s).push16 rfl (by decide) (s.pc - 1)
  exact ⟨slots, others, pointer⟩

/-- `JSL` pushes the bank, then the address of its last byte (R234). -/
theorem pushed_callLong (s : State) (target : Addr) :
    Pushed s (s.callLong target) [s.pb, highByte (s.pc - 1), lowByte (s.pc - 1)] := by
  obtain ⟨slots, others, pointer⟩ :=
    ((Pushed.nil s).push8 rfl (by decide) s.pb).push16 rfl (by simp) (s.pc - 1)
  exact ⟨slots, others, pointer⟩

/-- Settles O35: the pushes of `pushed_call` and `pushed_callLong`, then the jump. -/
theorem calls : Obligations.Calls := by
  unfold Obligations.Calls
  intro s a al
  exact ⟨⟨_, rfl, pushed_call s a, rfl, rfl⟩, ⟨_, rfl, pushed_call s _, toNat_indexedTarget s a, rfl⟩,
    ⟨_, rfl, pushed_callLong s al, toNat_bankOf_offsetOf al, rfl⟩⟩

/-- `RTS` in the words of the statements (R235). -/
theorem returnShort_eq (s : State) :
    s.returnShort = { s with sp := stackMoved s 2, pc := pulledWord s 0 + 1 } := by
  rw [State.returnShort, pull16_eq_pulledWord, ← pulled_pulled_sp_eq_stackMoved]
  rfl

/-- `RTL` in the words of the statements (R236). -/
theorem returnLong_eq (s : State) :
    s.returnLong = { s with sp := stackMoved s 3, pc := pulledWord s 0 + 1, pb := pulledByte s 2 } := by
  rw [State.returnLong, pull16_eq_pulledWord, pull8_eq_pulledByte, pulledByte_pulled, pulledByte_pulled,
    ← pulled_pulled_pulled_sp_eq_stackMoved]
  rfl

/-- Settles O36: `RTS` and `RTL` in the words of the statements. -/
theorem returns : Obligations.Returns := by
  unfold Obligations.Returns
  refine fun s => ⟨⟨_, congrArg Host.Outcome.next (returnShort_eq s), ?_, rfl, rfl⟩,
    ⟨_, congrArg Host.Outcome.next (returnLong_eq s), ?_, rfl, rfl, rfl⟩⟩
  · exact BitVec.toNat_add (pulledWord s 0) 1
  · exact BitVec.toNat_add (pulledWord s 0) 1

/-- `RTS` pulls what `JSR` pushed. -/
theorem returnShort_call (s : State) (target : Word) :
    (s.call target).returnShort = { s with mem := (s.call target).mem } := by
  have hpushed := pushed_call s target
  have hsp : stackMoved (s.call target) 2 = s.sp := hpushed.stackMoved_length rfl
  have hpc : pulledWord (s.call target) 0 = s.pc - 1 := hpushed.pulledWord_eq (bytes := []) rfl
  rw [returnShort_eq, hsp, hpc, BitVec.sub_add_cancel]
  rfl

/-- `RTL` pulls what `JSL` pushed. -/
theorem returnLong_callLong (s : State) (target : Addr) :
    (s.callLong target).returnLong = { s with mem := (s.callLong target).mem } := by
  have hpushed := pushed_callLong s target
  have hsp : stackMoved (s.callLong target) 3 = s.sp := hpushed.stackMoved_length rfl
  have hpc : pulledWord (s.callLong target) 0 = s.pc - 1 := hpushed.pulledWord_eq (bytes := [s.pb]) rfl
  have hpb : pulledByte (s.callLong target) 2 = s.pb := hpushed.pulledByte_eq (j := 0) rfl rfl
  rw [returnLong_eq, hsp, hpc, hpb, BitVec.sub_add_cancel]
  rfl

/-- Settles O37: the return pulls what the call pushed, and the call wrote only the slots pushed. -/
theorem returnUndoesCall : Obligations.ReturnUndoesCall := by
  unfold Obligations.ReturnUndoesCall
  refine fun s t i => ⟨fun hi ht => ?_, fun hi ht => ?_⟩
  · obtain ⟨target, rfl⟩ : ∃ target, t = s.call target := by
      obtain ⟨a, rfl⟩ | ⟨a, rfl⟩ := hi <;> cases ht <;> exact ⟨_, rfl⟩
    exact ⟨_, congrArg Host.Outcome.next (returnShort_call s target), rfl, (pushed_call s target).others⟩
  · obtain ⟨target, rfl⟩ := hi
    cases ht
    exact ⟨_, congrArg Host.Outcome.next (returnLong_callLong s target), rfl, (pushed_callLong s target).others⟩

/-! Software interrupts and the return from one. -/

/-- Settles O10: both are trap entry, which `trapTaken_trapEnter` says takes the trap. -/
theorem softwareInterrupts : Obligations.SoftwareInterrupts := by
  unfold Obligations.SoftwareInterrupts
  exact fun _ s => ⟨⟨_, rfl, trapTaken_trapEnter .brk s⟩, ⟨_, rfl, trapTaken_trapEnter .cop s⟩⟩

/-- The low byte of a word, zero-extended, is the word seen in 8 bits. -/
theorem trunc_byte_eq (v : Word) : trunc .byte v = (lowByte v).setWidth 16 := by
  apply BitVec.eq_of_toNat_eq
  rw [toNat_trunc, BitVec.toNat_setWidth_of_le (by decide), toNat_lowByte]
  rfl

/-- `RTI` in emulation mode: `P` through `SetP`, then `PC` (R237). -/
theorem trapReturn_of_emulation {s : State} (he : s.e = true) : s.trapReturn =
    { s.setP (pulledByte s 0) with sp := stackMoved s 3, pc := pulledWord s 1 } := by
  have hpulls : s.trapReturn =
      { s.setP s.pull8 with sp := s.pulled.pulled.pulled.sp, pc := s.pulled.pull16 } := if_pos he
  rw [hpulls, pull8_eq_pulledByte, pulled_pulled_pulled_sp_eq_stackMoved, pull16_eq_pulledWord, pulledWord_pulled]

/-- `RTI` in native mode: `P` through `SetP`, then `PC`, then `PB` (R237). -/
theorem trapReturn_of_native {s : State} (he : s.e = false) : s.trapReturn =
    { s.setP (pulledByte s 0) with sp := stackMoved s 4, pc := pulledWord s 1, pb := pulledByte s 3 } := by
  have hpulls : s.trapReturn =
      { s.setP s.pull8 with
        sp := s.pulled.pulled.pulled.pulled.sp
        pc := s.pulled.pull16
        pb := s.pulled.pulled.pulled.pull8 } := if_neg (ne_true_of_eq_false he)
  rw [hpulls, pull8_eq_pulledByte s, pulled_pulled_pulled_sp_eq_stackMoved, stackMoved_pulled, pull16_eq_pulledWord,
    pulledWord_pulled, pull8_eq_pulledByte, pulledByte_pulled, pulledByte_pulled, pulledByte_pulled]
  rfl

/-- `RTI` in both modes. -/
theorem trapReturn_eq (s : State) : s.trapReturn =
    { s.setP (pulledByte s 0) with
      sp := stackMoved s (if s.e then 3 else 4)
      pc := pulledWord s 1
      pb := if s.e then s.pb else pulledByte s 3 } := by
  cases he : s.e with
  | false => exact trapReturn_of_native he
  | true => exact trapReturn_of_emulation he

/-- Settles O12: `trapReturn_eq`, with what `SetP` does to `P`, `X` and `Y` (R280). -/
theorem returnFromInterrupt : Obligations.ReturnFromInterrupt := by
  unfold Obligations.ReturnFromInterrupt
  intro s
  refine ⟨_, congrArg Host.Outcome.next (trapReturn_eq s), rfl, ?_, ?_, rfl, rfl, rfl, rfl⟩
  · rw [← trunc_byte_eq]
    exact setP_x s _
  · rw [← trunc_byte_eq]
    exact setP_y s _

end Sys2Proof.Claims
end

section
/-! PROOFS. Pushes and pulls (R264 to R279): a push instruction pushes the bytes its rule lists one after the other, and
a pull instruction is a load of the value pulled with `S` moved past it, each said once for any bytes and any width. -/

namespace Sys2Proof.Claims

open Sys2Proof.Machine

/-! Push instructions. -/

/-- Pushing bytes changes the stack pointer and memory only (R260). -/
theorem foldl_push8_frame (bytes : List Byte) (s : State) : bytes.foldl State.push8 s =
    { s with sp := (bytes.foldl State.push8 s).sp, mem := (bytes.foldl State.push8 s).mem } := by
  induction bytes generalizing s with
  | nil => rfl
  | cons v bytes ih => exact ih (s.push8 v)

theorem foldl_push8_e (bytes : List Byte) (s : State) : (bytes.foldl State.push8 s).e = s.e := by
  rw [foldl_push8_frame]

/-- Up to 256 bytes pushed one after the other stand in the slots of the stack rule (R260). -/
theorem pushed_foldl_push8 (s : State) (bytes : List Byte) (hn : bytes.length ≤ 256) :
    Pushed s (bytes.foldl State.push8 s) bytes := by
  induction bytes using List.reverseRecOn with
  | nil => exact Pushed.nil s
  | append_singleton bytes v ih =>
    rw [List.length_append, List.length_singleton] at hn
    rw [List.foldl_append]
    exact (ih (by omega)).push8 (foldl_push8_e bytes s) (by omega) v

/-- A push of a width pushes the register's bytes in that width (R264, R265, R266). -/
theorem pushData_eq_foldl_push8 (s : State) (w : Width) (v : Word) :
    s.pushData w v = (registerBytes w v).foldl State.push8 s := by
  cases w <;> rfl

theorem length_registerBytes_le (w : Width) (v : Word) : (registerBytes w v).length ≤ 2 := by
  cases w <;> simp [registerBytes]

theorem ofNat_byteAt_toNat (s : State) (offset : Word) :
    BitVec.ofNat 8 (byteAt s offset.toNat) = memByte s.mem (bank0 offset) := by
  rw [byteAt_toNat_bank0, BitVec.ofNat_toNat, BitVec.setWidth_eq]

/-- The word that `PEI` pushes, its bytes read at a direct-page offset that wraps in bank 0 (R66, R278). -/
theorem memWord0_directPage (s : State) (d : Byte) :
    let p := s.d.toNat + d.toNat
    memWord0 s.mem (s.directPage d) =
      word16 (BitVec.ofNat 8 (byteAt s (p % 65536))) (BitVec.ofNat 8 (byteAt s ((p + 1) % 65536))) := by
  intro p
  have hlow : p % 65536 = (s.directPage d).toNat := (toNat_directPage s d).symm
  have hhigh : (p + 1) % 65536 = (s.directPage d + 1).toNat := (toNat_directPage_add s d 1).symm
  rw [hlow, hhigh, ofNat_byteAt_toNat, ofNat_byteAt_toNat]
  rfl

/-- Each push instruction pushes one or two bytes, those of its rule, in their order. -/
theorem exec_pushedBytes {i : Instr} {s : State} {bytes : List Byte} (h : pushedBytes s i = some bytes) :
    exec i s = .next (bytes.foldl State.push8 s) ∧ bytes.length ≤ 2 := by
  cases i with
  | pha | phx | phy =>
    cases h
    exact ⟨congrArg Host.Outcome.next (pushData_eq_foldl_push8 s _ _), length_registerBytes_le _ _⟩
  | phb | phd | phk | php | pea | per =>
    cases h
    exact ⟨rfl, by simp⟩
  | pei d =>
    cases h
    have hexec : exec (.pei d) s = .next (s.push16 (memWord0 s.mem (s.directPage d))) := rfl
    rw [hexec, memWord0_directPage, State.push16, highByte_word16, lowByte_word16]
    exact ⟨rfl, by simp⟩
  | _ => cases h

/-- Under the emulation-mode invariant `P` itself has bits 5 and 4, which are M and X, at 1 (R28, R270). -/
theorem memByte_push8_p_bits {s : State} (h : s.EmulationInv) (he : s.e = true) :
    let pushed := memByte (s.push8 s.p).mem (pushSlot s 0)
    pushed.getLsbD 5 = true ∧ pushed.getLsbD 4 = true := by
  have hpushed : memByte (s.push8 s.p).mem (pushSlot s 0) = s.p :=
    (pushed_foldl_push8 s [s.p] (by simp)).slots 0 (by simp)
  rw [hpushed]
  exact ⟨h.widthM he, h.widthX he⟩

/-- Settles O38: the bytes of each rule, pushed in order; `PHP`'s is `P`, whose M and X emulation mode keeps. -/
theorem pushes : Obligations.Pushes := by
  unfold Obligations.Pushes
  refine ⟨fun i s bytes h => ?_, fun s hinv he => ⟨_, rfl, memByte_push8_p_bits hinv he⟩⟩
  obtain ⟨hexec, hlen⟩ := exec_pushedBytes h
  exact ⟨_, hexec, pushed_foldl_push8 s bytes (hlen.trans (by decide)), foldl_push8_frame bytes s⟩

/-! Pull instructions. -/

theorem pullData_byte (s : State) : s.pullData .byte = (pulledByte s 0).setWidth 16 := by
  rw [State.pullData, pull8_eq_pulledByte]

theorem pullData_word (s : State) : s.pullData .word = pulledWord s 0 := pull16_eq_pulledWord s

theorem pullData_lt (s : State) (w : Width) : (s.pullData w).toNat < 2 ^ w.bits := by
  cases w with
  | byte =>
    rw [pullData_byte, BitVec.toNat_setWidth_of_le (by decide)]
    exact (pulledByte s 0).isLt
  | word => exact (s.pullData .word).isLt

theorem regValue_pullData (s : State) (w : Width) : regValue w (s.pullData w) = (s.pullData w).toNat :=
  regValue_of_lt (pullData_lt s w)

/-- A pull of a width moves `S` by that many bytes and nothing else (R262, R263). -/
theorem pulledData_eq (s : State) (w : Width) : s.pulledData w = { s with sp := stackMoved s w.bytes } := by
  cases w with
  | byte => exact congrArg (fun sp => { s with sp := sp }) (pulled_sp_eq_stackMoved s)
  | word => exact congrArg (fun sp => { s with sp := sp }) (pulled_pulled_sp_eq_stackMoved s)

/-- What a pull leaves in the accumulator is the value pulled, in its width (R271). -/
theorem accHolds_pullData {s t : State} {w : Width} (h : t.c = withAcc s.c w (s.pullData w)) :
    AccHolds s t w (s.pullData w).toNat := regValue_pullData s w ▸ accHolds_withAcc h

/-- What a pull shows in N and Z is the value pulled (R271 to R275). -/
theorem showsNZ_pullData {s t : State} {w : Width} (h : t.p = statusNZ s.p (s.pullData w) w) :
    ShowsNZ t w (s.pullData w).toNat := regValue_pullData s w ▸ showsNZ_statusNZ h

/-- `PLA` is a load of the accumulator with the value pulled, `S` moved past it (R271). -/
theorem pullAcc_eq (s : State) (w : Width) :
    s.pullAcc w = { s.loadAcc w (s.pullData w) with sp := stackMoved s w.bytes } := by
  rw [State.pullAcc, pulledData_eq]
  rfl

/-- `PLX` leaves the value pulled, which needs no truncation, in `X` (R272). -/
theorem pullX_eq (s : State) (w : Width) : s.pullX w =
    { s with x := s.pullData w, p := statusNZ s.p (s.pullData w) w, sp := stackMoved s w.bytes } := by
  rw [State.pullX, State.setX, trunc_of_lt (pullData_lt s w), pulledData_eq]
  rfl

/-- `PLY` likewise (R273). -/
theorem pullY_eq (s : State) (w : Width) : s.pullY w =
    { s with y := s.pullData w, p := statusNZ s.p (s.pullData w) w, sp := stackMoved s w.bytes } := by
  rw [State.pullY, State.setY, trunc_of_lt (pullData_lt s w), pulledData_eq]
  rfl

/-- `PLP` is `SetP` of the byte pulled, `S` moved past it (R276, R280). -/
theorem setP_pulled_eq (s : State) :
    s.pulled.setP s.pull8 = { s.setP (pulledByte s 0) with sp := stackMoved s 1 } := by
  rw [pull8_eq_pulledByte, ← pulled_sp_eq_stackMoved]
  rfl

/-- Settles O39: each pull is the load of the value pulled in its width; `PLP` is `SetP`. -/
theorem pulls : Obligations.Pulls := by
  unfold Obligations.Pulls
  intro s pulled
  have hpulled : pulled = fun w => (s.pullData w).toNat := by
    funext w
    cases w with
    | byte => rw [pullData_byte, BitVec.toNat_setWidth_of_le (by decide)]
    | word => rw [pullData_word]
  rw [hpulled]
  refine ⟨?pla, ?plx, ?ply, ?plb, ?pld, ?plp⟩
  case pla =>
    exact ⟨_, congrArg Host.Outcome.next (pullAcc_eq s s.mw), accHolds_pullData rfl, showsNZ_pullData rfl,
      flagsKept_statusNZ rfl, rfl, rfl⟩
  case plx =>
    exact ⟨_, congrArg Host.Outcome.next (pullX_eq s s.xw), rfl, showsNZ_pullData rfl, flagsKept_statusNZ rfl,
      rfl, rfl⟩
  case ply =>
    exact ⟨_, congrArg Host.Outcome.next (pullY_eq s s.xw), rfl, showsNZ_pullData rfl, flagsKept_statusNZ rfl,
      rfl, rfl⟩
  case plb =>
    exact ⟨_, rfl, pull8_eq_pulledByte s, showsNZ_pullData rfl, flagsKept_statusNZ rfl,
      pulled_sp_eq_stackMoved s, rfl⟩
  case pld =>
    exact ⟨_, rfl, pull16_eq_pulledWord s, showsNZ_pullData rfl, flagsKept_statusNZ rfl,
      pulled_pulled_sp_eq_stackMoved s, rfl⟩
  case plp =>
    exact ⟨_, congrArg Host.Outcome.next (setP_pulled_eq s), rfl, trunc_byte_eq s.x ▸ setP_x s _,
      trunc_byte_eq s.y ▸ setP_y s _, rfl, rfl⟩

end Sys2Proof.Claims
end

section
/-! PROOFS. Loads, stores and transfers (R290 to R309): what a load leaves in its register and shows in N and Z, said
once for a value of its width, whether it comes from an operand or from another register. -/

namespace Sys2Proof.Claims

open Sys2Proof.Machine

/-! Loads. -/

/-- What a load of `X` leaves, when the value fits the index width (R10, R23). -/
theorem loadX_holds (s : State) {v : Word} {r : Nat} (hv : v.toNat = r) (hr : r < 2 ^ s.xw.bits) :
    (s.loadX v).x.toNat = r ∧ ShowsNZ (s.loadX v) s.xw r ∧ FlagsKept s (s.loadX v) [.n, .z] := by
  have hx : (s.loadX v).x.toNat = r := (congrArg BitVec.toNat (trunc_of_lt (hv ▸ hr))).trans hv
  exact ⟨hx, hx ▸ showsNZ_loadX s v, flagsKept_statusNZ rfl⟩

/-- What a load of `Y` leaves, when the value fits the index width (R10, R23). -/
theorem loadY_holds (s : State) {v : Word} {r : Nat} (hv : v.toNat = r) (hr : r < 2 ^ s.xw.bits) :
    (s.loadY v).y.toNat = r ∧ ShowsNZ (s.loadY v) s.xw r ∧ FlagsKept s (s.loadY v) [.n, .z] := by
  have hy : (s.loadY v).y.toNat = r := (congrArg BitVec.toNat (trunc_of_lt (hv ▸ hr))).trans hv
  exact ⟨hy, hy ▸ showsNZ_loadY s v, flagsKept_statusNZ rfl⟩

/-- Settles O40: each is a load of the operand, which fits the width in which it is read. -/
theorem loads : Obligations.Loads := by
  unfold Obligations.Loads
  refine fun i o s => ⟨fun hi => ?lda, fun hi => ?ldx, fun hi => ?ldy⟩
  case lda =>
    obtain ⟨hacc, hnz, hkept⟩ := loadAcc_holds s rfl (operand_lt s o s.mw)
    exact ⟨_, exec_dataForm s hi, hacc, hnz, hkept, rfl⟩
  case ldx =>
    obtain ⟨hx, hnz, hkept⟩ := loadX_holds s rfl (operand_lt s o s.xw)
    exact ⟨_, exec_dataForm s hi, hx, hnz, hkept, rfl⟩
  case ldy =>
    obtain ⟨hy, hnz, hkept⟩ := loadY_holds s rfl (operand_lt s o s.xw)
    exact ⟨_, exec_dataForm s hi, hy, hnz, hkept, rfl⟩

/-! Stores. -/

/-- A store of a register seen in a width leaves its bytes at the address (R65, R293 to R295). -/
theorem stored_writeData_trunc (s : State) (a : Addr) (w : Width) (r : Word) :
    Stored s (s.writeData a w (trunc w r)) a w (regValue w r) := by
  have hvalue : regValue w (trunc w r) = regValue w r := (regValue_trunc w r).trans (toNat_trunc w r)
  exact hvalue ▸ stored_memPutData rfl

/-- A store of zero leaves zero bytes (R296). -/
theorem stored_writeData_zero (s : State) (a : Addr) (w : Width) : Stored s (s.writeData a w 0) a w 0 := by
  have hvalue : regValue w 0 = 0 := Nat.zero_mod _
  have hstored : Stored s (s.writeData a w 0) a w (regValue w 0) := stored_memPutData rfl
  rwa [hvalue] at hstored

/-- Settles O41: each is a store of a register seen in its width, or of zero. -/
theorem stores : Obligations.Stores := by
  unfold Obligations.Stores
  intro i op mode s hi
  rw [exec_storeForm s hi]
  cases op with
  | sta => exact ⟨_, rfl, stored_writeData_trunc s _ s.mw s.c, rfl⟩
  | stx => exact ⟨_, rfl, stored_writeData_trunc s _ s.xw s.x, rfl⟩
  | sty => exact ⟨_, rfl, stored_writeData_trunc s _ s.xw s.y, rfl⟩
  | stz => exact ⟨_, rfl, stored_writeData_zero s _ s.mw, rfl⟩

/-! Transfers. -/

/-- A transfer to `X` is a load of the source seen in the index width (R297, R302, R303). -/
theorem loadX_trunc_transfers (s : State) (r : Word) :
    let t := s.loadX (trunc s.xw r)
    t.x.toNat = regValue s.xw r ∧ ShowsNZ t s.xw t.x.toNat ∧ FlagsKept s t [.n, .z] ∧
      t = { s with x := t.x, p := t.p } := by
  obtain ⟨hx, -, hkept⟩ := loadX_holds s (toNat_trunc s.xw r) (regValue_lt s.xw r)
  exact ⟨hx, showsNZ_loadX s _, hkept, rfl⟩

/-- A transfer to `Y` is a load of the source seen in the index width (R298, R301). -/
theorem loadY_trunc_transfers (s : State) (r : Word) :
    let t := s.loadY (trunc s.xw r)
    t.y.toNat = regValue s.xw r ∧ ShowsNZ t s.xw t.y.toNat ∧ FlagsKept s t [.n, .z] ∧
      t = { s with y := t.y, p := t.p } := by
  obtain ⟨hy, -, hkept⟩ := loadY_holds s (toNat_trunc s.xw r) (regValue_lt s.xw r)
  exact ⟨hy, showsNZ_loadY s _, hkept, rfl⟩

/-- A transfer to the accumulator is a load of the source seen in the accumulator width (R299, R300). -/
theorem loadAcc_trunc_transfers (s : State) (r : Word) :
    let t := s.loadAcc s.mw (trunc s.mw r)
    AccHolds s t s.mw (regValue s.mw r) ∧ ShowsNZ t s.mw (regValue s.mw r) ∧ FlagsKept s t [.n, .z] ∧
      t = { s with c := t.c, p := t.p } := by
  obtain ⟨hacc, hnz, hkept⟩ := loadAcc_holds s (toNat_trunc s.mw r) (regValue_lt s.mw r)
  exact ⟨hacc, hnz, hkept, rfl⟩

/-- Settles O42: each is a load of the source seen in the destination's width. -/
theorem transfers : Obligations.Transfers := by
  unfold Obligations.Transfers
  refine fun s => ⟨?tax, ?tyx, ?tsx, ?tay, ?txy, ?txa, ?tya⟩
  case tax => exact ⟨_, rfl, loadX_trunc_transfers s s.c⟩
  case tyx => exact ⟨_, rfl, loadX_trunc_transfers s s.y⟩
  case tsx => exact ⟨_, rfl, loadX_trunc_transfers s s.sp⟩
  case tay => exact ⟨_, rfl, loadY_trunc_transfers s s.c⟩
  case txy => exact ⟨_, rfl, loadY_trunc_transfers s s.x⟩
  case txa => exact ⟨_, rfl, loadAcc_trunc_transfers s s.x⟩
  case tya => exact ⟨_, rfl, loadAcc_trunc_transfers s s.y⟩

/-! Transfers with `S` and `D`, and the exchange of the accumulator's bytes. -/

/-- A transfer to `S` takes the low byte, and the high byte only in native mode (R304, R307). -/
theorem stackSet_bytes (e : Bool) (sp v : Word) :
    lowByte (stackSet e sp v) = lowByte v ∧
      highByte (stackSet e sp v) = if e then highByte sp else highByte v := by
  cases e with
  | true => exact ⟨lowByte_word16 _ _, highByte_word16 _ _⟩
  | false => exact ⟨rfl, rfl⟩

/-- `SetNZ` on 16 bits shows the whole word (R305, R306, R308). -/
theorem showsNZ_statusNZ_word {t : State} {p : Byte} {v : Word} (h : t.p = statusNZ p v .word) :
    ShowsNZ t .word v.toNat := regValue_of_lt (w := .word) v.isLt ▸ showsNZ_statusNZ h

theorem regValue_byte_word16 (lo hi : Byte) : regValue .byte (word16 lo hi) = lo.toNat := by
  have h : (lowByte (word16 lo hi)).toNat = lo.toNat := congrArg BitVec.toNat (lowByte_word16 lo hi)
  rwa [toNat_lowByte] at h

/-- Settles O43: whole words moved and shown on 16 bits, `S` by `stackSet`; `XBA` shows its new low byte. -/
theorem wideTransfers : Obligations.WideTransfers := by
  unfold Obligations.WideTransfers
  refine fun s => ⟨?txs, ?tcs, ?tcd, ?tdc, ?tsc, ?xba⟩
  case txs =>
    obtain ⟨hlow, hhigh⟩ := stackSet_bytes s.e s.sp s.x
    exact ⟨_, rfl, hlow, hhigh, rfl⟩
  case tcs =>
    obtain ⟨hlow, hhigh⟩ := stackSet_bytes s.e s.sp s.c
    exact ⟨_, rfl, hlow, hhigh, rfl⟩
  case tcd | tdc | tsc => exact ⟨_, rfl, rfl, showsNZ_statusNZ_word rfl, flagsKept_statusNZ rfl, rfl⟩
  case xba =>
    exact ⟨_, rfl, lowByte_word16 _ _, highByte_word16 _ _,
      regValue_byte_word16 (highByte s.c) (lowByte s.c) ▸ showsNZ_statusNZ rfl, flagsKept_statusNZ rfl, rfl⟩

end Sys2Proof.Claims
end

section
/-! PROOFS. Status flags, mode exchange and no-operations (R330 to R347): the flags that `SetP` leaves are said once for
`REP` and `SEP`, and `XCE` is the frame lemmas of its operation read for each new `E`. -/

namespace Sys2Proof.Claims

open Sys2Proof.Machine

/-! Single flags. -/

/-- Settles O44: every instruction of the form is a write of its one flag. -/
theorem flagInstructions : Obligations.FlagInstructions := by
  unfold Obligations.FlagInstructions
  intro i f b s hi
  exact ⟨_, exec_flagForm s hi, statusFlag_putFlag_same s.p f b, flagsKept_setFlag s f b, rfl⟩

/-! `REP` and `SEP`. -/

/-- The flags after `SetP(v)` are those of `v`, but for M and X, which emulation mode keeps at 1 (R280). -/
theorem flag_setP (s : State) (v : Byte) (f : Flag) :
    (s.setP v).flag f = if s.e = true ∧ (f = .m ∨ f = .x) then true else statusFlag v f := by
  rw [State.flag, setP_p]
  cases s.e with
  | false => simp
  | true => cases f <;> simp [statusFlag, flagBit]

/-- `SetP` leaves the low bytes of the indexes when X is 1 (R280). -/
theorem setP_index (s : State) (v : Byte) :
    (s.setP v).x = (if (s.setP v).flag .x then (lowByte s.x).setWidth 16 else s.x) ∧
      (s.setP v).y = (if (s.setP v).flag .x then (lowByte s.y).setWidth 16 else s.y) :=
  ⟨trunc_byte_eq s.x ▸ setP_x s v, trunc_byte_eq s.y ▸ setP_y s v⟩

/-- A bit of the mask clears its flag and no other (R337). -/
theorem statusFlag_and_not (p mask : Byte) (f : Flag) :
    statusFlag (p &&& ~~~mask) f = if mask.getLsbD (flagBit f) then false else statusFlag p f := by
  have hf : flagBit f < 8 := by cases f <;> decide
  rw [statusFlag, BitVec.getLsbD_and, BitVec.getLsbD_not]
  cases mask.getLsbD (flagBit f) <;> simp [hf, statusFlag]

/-- A bit of the mask sets its flag and no other (R338). -/
theorem statusFlag_or (p mask : Byte) (f : Flag) :
    statusFlag (p ||| mask) f = if mask.getLsbD (flagBit f) then true else statusFlag p f := by
  rw [statusFlag, BitVec.getLsbD_or]
  cases mask.getLsbD (flagBit f) <;> simp [statusFlag]

/-- Settles O45: both are `SetP`, of the status with the mask's flags cleared or set. -/
theorem statusMasks : Obligations.StatusMasks := by
  unfold Obligations.StatusMasks
  intro mask s
  refine List.forall_mem_cons.mpr ⟨?rep, List.forall_mem_singleton.mpr ?sep⟩
  case rep =>
    obtain ⟨hx, hy⟩ := setP_index s (s.p &&& ~~~mask)
    refine ⟨_, rfl, fun f => ?_, hx, hy, setP_frame s _⟩
    rw [flag_setP, statusFlag_and_not, decide_eq_false nofun]
    rfl
  case sep =>
    obtain ⟨hx, hy⟩ := setP_index s (s.p ||| mask)
    refine ⟨_, rfl, fun f => ?_, hx, hy, setP_frame s _⟩
    rw [flag_setP, statusFlag_or, decide_eq_true rfl]
    rfl

/-! `XCE`. -/

/-- A carry of 1 takes `XCE` into emulation mode, with what that mode forces (R345). -/
theorem exchangeCE_of_carry {s : State} (hc : s.flag .c = true) : s.exchangeCE =
    { s with
      e := true
      p := putFlag (putFlag (putFlag s.p .c s.e) .m true) .x true
      x := (lowByte s.x).setWidth 16
      y := (lowByte s.y).setWidth 16
      sp := word16 (lowByte s.sp) 0x01 } := by
  rw [← trunc_byte_eq, ← trunc_byte_eq]
  exact if_pos hc

/-- A carry of 0 takes `XCE` to native mode, where nothing is forced (R345). -/
theorem exchangeCE_of_no_carry {s : State} (hc : s.flag .c = false) :
    s.exchangeCE = { s with e := false, p := putFlag s.p .c s.e } := if_neg (ne_true_of_eq_false hc)

/-- Settles O46: the exchange for each value of the carry, which is the new `E`. -/
theorem exchangeCarryAndEmulation : Obligations.ExchangeCarryAndEmulation := by
  unfold Obligations.ExchangeCarryAndEmulation
  intro s
  cases hc : s.flag .c with
  | true =>
    refine ⟨_, congrArg Host.Outcome.next (exchangeCE_of_carry hc), rfl, by simp [State.flag], fun _ => ?_, nofun⟩
    exact ⟨exchangeCE_of_carry hc ▸ flagsKept_exchangeCE s, by simp [State.flag], by simp [State.flag], rfl, rfl, rfl,
      rfl⟩
  | false =>
    refine ⟨_, congrArg Host.Outcome.next (exchangeCE_of_no_carry hc), rfl, by simp [State.flag], nofun, fun _ => ?_⟩
    exact ⟨flagsKept_setFlag s .c s.e, rfl⟩

/-! `NOP` and `WDM`. -/

/-- Settles O47: `WDM` by whether `$42` is in K, which also decides how the byte decodes. -/
theorem noOperations : Obligations.NoOperations := by
  unfold Obligations.NoOperations
  intro s operand
  exact ⟨rfl, fun hk => congrArg Host.Outcome.next (if_pos hk),
    fun hk => congrArg Host.Outcome.next (if_neg (ne_true_of_eq_false hk)), fun _ _ _ _ _ => ⟨rfl, rfl⟩⟩

end Sys2Proof.Claims
end

section
/-! PROOFS. Waiting and stopping (R348, R349): what `Step()` does in an engine that is not running, and that no host
operation but reset moves `run`. -/

namespace Sys2Proof.Claims

open Sys2Proof.Machine

/-! `STP`. -/

theorem engineStep_of_stopped {s : State} (hr : s.run = .stopped) : engineStep s = .next s := if_pos hr

/-- Only reset, among the host's operations, writes `run` (R470). -/
theorem hostEffect_run {a : HostAction} (ha : ∀ draw, a ≠ .reset draw) (s : State) : (hostEffect a s).run = s.run := by
  cases a with
  | reset draw => exact absurd rfl (ha draw)
  | _ => rfl

/-- Settles O7: a stopped `Step()` is its first branch; every other step is a host operation. -/
theorem stopHoldsUntilReset : Obligations.StopHoldsUntilReset := by
  unfold Obligations.StopHoldsUntilReset
  refine ⟨fun s => rfl, fun s hr hturn => (step_of_cpuTurn hturn).trans (engineStep_of_stopped hr),
    fun s t hr ht => ?_⟩
  obtain hstep | ⟨a, rest, hq, -, hstep⟩ := step_cases s
  · rw [hstep, engineStep_of_stopped (show (called s).run = .stopped from hr)] at ht
    cases ht
    exact .inl hr
  · by_cases ha : ∃ draw, a = .reset draw
    · obtain ⟨draw, rfl⟩ := ha
      exact .inr ⟨draw, by rw [hq, List.head?_cons]⟩
    · rw [hstep] at ht
      cases ht
      exact .inl ((hostEffect_run (not_exists.mp ha) _).trans hr)

/-! `WAI`. -/

/-- Without an interrupt a waiting engine's `Step()` changes nothing (R348). -/
theorem engineStep_of_waiting {s : State} (hr : s.run = .waiting) (hn : s.nmiPending = false)
    (hi : s.irqLine = false) : engineStep s = .next s := by
  have hwake : s.wakeOnIrq.run = .waiting := by simp [State.wakeOnIrq, hi, hr]
  rw [engineStep, if_neg (by simp [hr]), if_neg (by simp [hn]), if_neg (by simp [hi]), if_pos hwake]

/-- Settles O8: the branches of `Step()` that a waiting engine can take; with IRQ masked both sides run the instruction
at `PC`. -/
theorem waitEndsWithAnInterrupt : Obligations.WaitEndsWithAnInterrupt := by
  unfold Obligations.WaitEndsWithAnInterrupt
  refine ⟨fun s => rfl, fun s hr hturn => ?_⟩
  have hstep : step s = engineStep (called s) := step_of_cpuTurn hturn
  have hnot : (called s).run ≠ .stopped := fun h => absurd (hr.symm.trans h) (by decide)
  refine ⟨fun hn hi => ?_, fun hn => ?_, fun hn hi hm => ?_, fun hn hi hm => ?_⟩
  · exact hstep.trans (engineStep_of_waiting hr hn hi)
  · exact ⟨_, hstep.trans (engineStep_of_nmi hnot hn), trapTaken_trapEnter _ _⟩
  · exact ⟨_, hstep.trans (engineStep_of_irq hnot hn hi hm), trapTaken_trapEnter _ _⟩
  · have hturn' : CpuTurn { s with run := .running } := hturn
    have hrunning : engineStep (called { s with run := .running }) =
        runInstruction { called s with run := .running } := engineStep_of_running rfl hn (.inr hm)
    calc step s = engineStep (called s) := hstep
      _ = runInstruction { called s with run := .running } := engineStep_of_masked_irq hnot hn hi hm
      _ = engineStep (called { s with run := .running }) := hrunning.symm
      _ = step { s with run := .running } := (step_of_cpuTurn hturn').symm

end Sys2Proof.Claims
end

section
/-! PROOFS. Block moves (R351, R352, R353): one step of either direction in numbers, then `n` steps by induction, with
what `n` steps have done as the invariant. -/

namespace Sys2Proof.Claims

open Sys2Proof.Machine

/-! One step. -/

theorem toNat_trunc_add (w : Width) (v u : Word) :
    (trunc w (v + u)).toNat = (v.toNat + (trunc w u).toNat) % 2 ^ w.bits := by
  rw [toNat_trunc, toNat_trunc, BitVec.toNat_add, mod_word_mod, Nat.add_mod_mod]

/-- Both block moves are `BlockMoveStep`, by one or by minus one in the index width, and three bytes long. -/
theorem exec_blockMove {dst src : Byte} {i : Instr} (hi : i ∈ [Instr.mvn dst src, Instr.mvp dst src]) (w : Width) :
    i.length = 3 ∧ ∃ delta : Word, (trunc w delta).toNat = (if i = .mvn dst src then 1 else 2 ^ w.bits - 1) ∧
      ∀ s, exec i s = .next (s.blockMove dst src delta) := by
  simp only [List.mem_cons, List.not_mem_nil, or_false] at hi
  obtain rfl | rfl := hi
  · exact ⟨rfl, 1, by rw [if_pos rfl]; cases w <;> rfl, fun _ => rfl⟩
  · exact ⟨rfl, -1, by rw [if_neg nofun]; cases w <;> rfl, fun _ => rfl⟩

/-- The byte that a step moves stands at its destination, and every other byte is as it was. -/
theorem blockMove_stored (s : State) (dst src : Byte) (delta : Word) :
    Stored s (s.blockMove dst src delta) (addr24 dst s.y) .byte (memByte s.mem (addr24 src s.x)).toNat where
  low := (congrArg BitVec.toNat (memByte_memPutByte_same ..)).trans (Nat.mod_eq_of_lt (BitVec.isLt _)).symm
  high := nofun
  others _ hb _ := memByte_memPutByte_ne s.mem _ hb

theorem blockMove_c_toNat (s : State) (dst src : Byte) (delta : Word) :
    (s.blockMove dst src delta).c.toNat = (s.c.toNat + 65535) % 65536 :=
  (congrArg BitVec.toNat (trunc_word (s.c - 1))).symm.trans (toNat_trunc_sub_one .word s.c)

/-- Settles O48: `BlockMoveStep` by the step's signed distance, each field in numbers. -/
theorem blockMoveStep : Obligations.BlockMoveStep := by
  unfold Obligations.BlockMoveStep
  intro dst src s i hi
  obtain ⟨-, delta, hdelta, hexec⟩ := exec_blockMove hi s.xw
  rw [← hdelta]
  exact ⟨_, hexec s, rfl, blockMove_stored s dst src delta, toNat_trunc_add s.xw s.x delta,
    toNat_trunc_add s.xw s.y delta, blockMove_c_toNat s dst src delta, fun hc => if_pos hc, fun hc => if_neg hc, rfl⟩

/-! `C + 1` steps. -/

/-- One more execution of the same instruction comes after those before it. -/
theorem runSame_succ {i : Instr} {n : Nat} {s t : State} (h : runSame i n s = .next t) :
    runSame i (n + 1) s = exec i { t with pc := t.pc + BitVec.ofNat 16 i.length } := by
  induction n generalizing s with
  | zero =>
    cases h
    rw [runSame]
    cases exec i { t with pc := t.pc + BitVec.ofNat 16 i.length } <;> rfl
  | succ n ih =>
    rw [runSame] at h ⊢
    cases hexec : exec i { s with pc := s.pc + BitVec.ofNat 16 i.length } with
    | next u =>
      rw [hexec] at h
      exact ih h
    | fault | refused =>
      rw [hexec] at h
      cases h

/-- What `n` steps of a block move into the bank have done, `PC` apart: `C` counted down, the indexes moved by `n`
times the distance, and memory changed in the bank only. -/
structure BlockMoved (dst : Byte) (delta n : Nat) (s t : State) : Prop where
  count : t.c = s.c - BitVec.ofNat 16 n
  x : regValue s.xw t.x = (s.x.toNat + n * delta) % 2 ^ s.xw.bits
  y : regValue s.xw t.y = (s.y.toNat + n * delta) % 2 ^ s.xw.bits
  others : ∀ a, bankOf a ≠ dst → memByte t.mem a = memByte s.mem a
  frame : t = { s with db := t.db, mem := t.mem, x := t.x, y := t.y, c := t.c, pc := t.pc }

theorem BlockMoved.zero (dst : Byte) (delta : Nat) (s : State) : BlockMoved dst delta 0 s s where
  count := (BitVec.sub_zero s.c).symm
  x := by rw [Nat.zero_mul]; rfl
  y := by rw [Nat.zero_mul]; rfl
  others _ _ := rfl
  frame := rfl

theorem BlockMoved.xw {dst : Byte} {delta n : Nat} {s t : State} (h : BlockMoved dst delta n s t) : t.xw = s.xw := by
  rw [h.frame]
  rfl

/-- The register seen in the index width after one more move by the distance. -/
theorem regValue_trunc_add {w : Width} {r delta : Word} {v n : Nat}
    (h : regValue w r = (v + n * (trunc w delta).toNat) % 2 ^ w.bits) :
    regValue w (trunc w (r + delta)) = (v + (n + 1) * (trunc w delta).toNat) % 2 ^ w.bits := by
  rw [regValue_trunc, toNat_trunc_add, ← Nat.mod_add_mod, ← regValue, h, Nat.mod_add_mod, Nat.succ_mul, Nat.add_assoc]

/-- A step from where `n` steps ended, wherever `PC` is, makes `n + 1`. -/
theorem BlockMoved.step {dst : Byte} {delta : Word} {n : Nat} {s t : State}
    (h : BlockMoved dst (trunc s.xw delta).toNat n s t) (src : Byte) (pc : Word) :
    BlockMoved dst (trunc s.xw delta).toNat (n + 1) s ({ t with pc := pc }.blockMove dst src delta) where
  count := by
    show t.c - 1 = _
    rw [h.count, BitVec.ofNat_add]
    exact sub_sub ..
  x := by
    show regValue s.xw (trunc t.xw (t.x + delta)) = _
    rw [h.xw, regValue_trunc_add h.x]
  y := by
    show regValue s.xw (trunc t.xw (t.y + delta)) = _
    rw [h.xw, regValue_trunc_add h.y]
  others a ha := by
    have hne : a ≠ addr24 dst t.y := fun h => ha (h ▸ bankOf_addr24 dst t.y)
    exact (memByte_memPutByte_ne t.mem _ hne).trans (h.others a ha)
  frame := by
    rw [h.frame]
    rfl

/-- While the count has not run out, `n` steps complete with `PC` back on the opcode. -/
theorem runSame_blockMove {dst src : Byte} {delta : Word} {i : Instr} {s : State} (hlen : i.length = 3)
    (hexec : ∀ s, exec i s = .next (s.blockMove dst src delta)) {n : Nat} (hn : n ≤ s.c.toNat) :
    ∃ t, runSame i n s = .next t ∧ BlockMoved dst (trunc s.xw delta).toNat n s t ∧ t.pc = s.pc := by
  induction n with
  | zero => exact ⟨s, rfl, .zero dst _ s, rfl⟩
  | succ n ih =>
    obtain ⟨t, hrun, hmoved, hpc⟩ := ih (by omega)
    have hcount : t.c - 1 ≠ 0xFFFF := by
      have := s.c.isLt
      rw [hmoved.count]
      bv_omega
    refine ⟨_, (runSame_succ hrun).trans (hexec _), hmoved.step src _, ?_⟩
    rw [hlen]
    show (if t.c - 1 = 0xFFFF then t.pc + 3 else t.pc + 3 - 3) = s.pc
    rw [if_neg hcount, BitVec.add_sub_cancel, hpc]

/-- Settles O49: `C` steps leave a count of 0, and the step after them falls through. -/
theorem blockMoveTakesCPlusOneSteps : Obligations.BlockMoveTakesCPlusOneSteps := by
  unfold Obligations.BlockMoveTakesCPlusOneSteps
  intro dst src s i hi
  obtain ⟨hlen, delta, hdelta, hexec⟩ := exec_blockMove hi s.xw
  rw [← hdelta]
  refine ⟨fun n hn => ?_, ?_⟩
  · obtain ⟨t, hrun, -, hpc⟩ := runSame_blockMove hlen hexec (Nat.le_of_lt_succ hn)
    exact ⟨t, hrun, hpc⟩
  · obtain ⟨t, hrun, hmoved, hpc⟩ := runSame_blockMove hlen hexec (Nat.le_refl s.c.toNat)
    have hlast := hmoved.step src (t.pc + BitVec.ofNat 16 i.length)
    have hcount : t.c - 1 = 0xFFFF := by
      rw [hmoved.count, BitVec.ofNat_toNat, BitVec.setWidth_eq, BitVec.sub_self]
      rfl
    have hindex (r : Word) : regValue s.xw (trunc t.xw r) = (trunc t.xw r).toNat := hmoved.xw ▸ regValue_trunc t.xw r
    refine ⟨_, (runSame_succ hrun).trans (hexec _), ?_, hcount, rfl, (hindex _).symm.trans hlast.x,
      (hindex _).symm.trans hlast.y, hlast.others, hlast.frame⟩
    rw [hlen, ← hpc]
    exact if_pos hcount

end Sys2Proof.Claims
end

section
/-! PROOFS. The DSP's registers (R402 to R406): what the work on the channels of a mask does to each of them, then what
a write of each register does and what a read of each gives. -/

namespace Sys2Proof.Claims

open Sys2Proof.Machine

/-! The channels of a mask. -/

/-- What only its own channel's turn changes, the work on the channels of a mask changes once if the channel is in the
mask, and otherwise leaves; `P` is what every turn may rely on. -/
theorem forSetBits_observed {α : Type} {f : Dsp → Fin 8 → Dsp} {P : Dsp → Prop} (hP : ∀ d w, P d → P (f d w))
    (observe : Dsp → α) (g : α → α) {v : Fin 8} (hown : ∀ d, P d → observe (f d v) = g (observe d))
    (hother : ∀ d w, w ≠ v → observe (f d w) = observe d) (mask : Byte) {d : Dsp} (hd : P d) :
    observe (forSetBits f mask d) = if mask.getLsbD v.val then g (observe d) else observe d := by
  have hfold (l : List (Fin 8)) : l.Nodup → ∀ d, P d →
      observe (l.foldl (fun d w => if mask.getLsbD w.val then f d w else d) d) =
        if v ∈ l ∧ mask.getLsbD v.val = true then g (observe d) else observe d := by
    induction l with
    | nil => exact fun _ d _ => by simp
    | cons w l ih =>
      intro hl d hd
      obtain ⟨hw, hl⟩ := List.nodup_cons.mp hl
      rw [List.foldl_cons]
      by_cases hmask : mask.getLsbD w.val = true
      · rw [if_pos hmask, ih hl _ (hP d w hd)]
        by_cases hwv : w = v
        · subst hwv
          rw [if_neg fun h => hw h.1, if_pos ⟨List.mem_cons_self, hmask⟩, hown d hd]
        · simp only [hother d w hwv, List.mem_cons, Ne.symm hwv, false_or]
      · rw [if_neg hmask, ih hl d hd]
        by_cases hwv : w = v
        · subst hwv
          rw [if_neg fun h => hmask h.2, if_neg fun h => hmask h.2]
        · simp only [List.mem_cons, Ne.symm hwv, false_or]
  rw [forSetBits, hfold _ (List.nodup_finRange 8) d hd]
  simp only [List.mem_finRange, true_and]

/-- Work that touches channels only touches channels only on a whole mask. -/
theorem forSetBits_frame {f : Dsp → Fin 8 → Dsp} (hf : ∀ d v, f d v = { d with channels := (f d v).channels })
    (mask : Byte) (d : Dsp) :
    forSetBits f mask d = { d with channels := (forSetBits f mask d).channels } := by
  refine forSetBits_keeps f (fun d' => d' = { d with channels := d'.channels }) (fun d' v h => ?_) mask d rfl
  rw [hf, h]

/-- KON's work on a mask touches channels and ENDX only (R405). -/
theorem forSetBits_keyOn_frame (aram : Memory) (mask : Byte) (d : Dsp) :
    forSetBits (Dsp.keyOn aram) mask d =
      { d with
        channels := (forSetBits (Dsp.keyOn aram) mask d).channels
        endx := (forSetBits (Dsp.keyOn aram) mask d).endx } := by
  refine forSetBits_keeps _ (fun d' => d' = { d with channels := d'.channels, endx := d'.endx }) (fun d' v h => ?_)
    mask d rfl
  rw [h]
  rfl

/-! Writes, register by register. -/

theorem write_kon (aram : Memory) (d : Dsp) (mask : Byte) :
    d.write aram 0x4C mask = forSetBits (Dsp.keyOn aram) mask (d.setReg 0x4C mask) := rfl

theorem write_koff (aram : Memory) (d : Dsp) (mask : Byte) :
    d.write aram 0x5C mask = forSetBits Dsp.keyOff mask (d.setReg 0x5C mask) := rfl

theorem write_flg (aram : Memory) (d : Dsp) (val : Byte) : d.write aram 0x6C val =
    if val.getLsbD 7 then forSetBits Dsp.softReset 0xFF (d.setReg 0x6C val) else d.setReg 0x6C val := rfl

theorem write_other (aram : Memory) (d : Dsp) {a : BitVec 7} (val : Byte) (ha : a ∉ [0x4C, 0x5C, 0x6C, 0x7C]) :
    d.write aram a val = (d.setReg a val).setChannel (dspChannelOf a)
      (writeChannelReg (a.toNat % 16) val (d.channel (dspChannelOf a))) := by
  simp only [List.mem_cons, List.not_mem_nil, or_false, not_or] at ha
  obtain ⟨hkon, hkoff, hflg, hendx⟩ := ha
  unfold Dsp.write
  dsimp only
  rw [if_neg hkon, if_neg hkoff, if_neg hflg, if_neg hendx]
  rfl

/-- Every write stores its byte, and beside the registers touches channels and ENDX only (R403). -/
theorem write_frame (aram : Memory) (d : Dsp) (a : BitVec 7) (val : Byte) : d.write aram a val =
    { d.setReg a val with channels := (d.write aram a val).channels, endx := (d.write aram a val).endx } := by
  unfold Dsp.write
  dsimp only
  split_ifs
  · exact forSetBits_keyOn_frame aram val _
  · rw [forSetBits_frame fun _ _ => rfl]
  · rw [forSetBits_frame fun _ _ => rfl]
  · rfl
  · rfl
  · rfl

/-- ENDX is written by KON and by ENDX itself (R402, R405). -/
theorem write_keeps_endx (aram : Memory) (d : Dsp) {a : BitVec 7} (val : Byte) (ha : a ∉ [0x4C, 0x7C]) :
    (d.write aram a val).endx = d.endx := by
  simp only [List.mem_cons, List.not_mem_nil, or_false, not_or] at ha
  obtain ⟨hkon, hendx⟩ := ha
  unfold Dsp.write
  dsimp only
  rw [if_neg hkon]
  split_ifs
  · rw [forSetBits_frame fun _ _ => rfl]
    rfl
  · rw [forSetBits_frame fun _ _ => rfl]
    rfl
  · rfl
  · rfl

/-- A channel once KON has started it, `DIR` being the directory's page (R405, R407). -/
def started (aram : Memory) (dir : Byte) (ch : Channel) : Channel :=
  { ch with
    keyOn := true, phase := .attack, env := 0
    brrAddr := aramWord aram (word16 0 dir + 4 * ch.srcn.setWidth 16)
    brrPos := 0, p1 := 0, p2 := 0, frac := 0 }

theorem keyOn_channel (aram : Memory) (d : Dsp) (v w : Fin 8) :
    (d.keyOn aram v).channel w = if w = v then started aram (d.reg 0x5D) (d.channel v) else d.channel w :=
  Dsp.channel_setChannel d v w _

/-- KON on one channel (R405). -/
theorem write_kon_channel (aram : Memory) (d : Dsp) (mask : Byte) (v : Fin 8) :
    (d.write aram 0x4C mask).channel v =
      if mask.getLsbD v.val then started aram (d.reg 0x5D) (d.channel v) else d.channel v := by
  have hdir : (d.setReg 0x4C mask).reg 0x5D = d.reg 0x5D := (Dsp.reg_setReg d _ _ _).trans (if_neg (by decide))
  rw [write_kon]
  exact forSetBits_observed (f := Dsp.keyOn aram) (P := fun d' => d'.reg 0x5D = d.reg 0x5D) (fun _ _ h => h)
    (fun d' => d'.channel v) (started aram (d.reg 0x5D))
    (fun d' h => h ▸ (keyOn_channel aram d' v v).trans (if_pos rfl))
    (fun d' w hw => (keyOn_channel aram d' w v).trans (if_neg hw.symm)) mask hdir

theorem write_kon_endx (aram : Memory) (d : Dsp) (mask : Byte) (v : Fin 8) :
    (d.write aram 0x4C mask).endx.getLsbD v.val = (d.endx.getLsbD v.val && !mask.getLsbD v.val) := by
  have hbits := forSetBits_observed (f := Dsp.keyOn aram) (P := fun _ => True) (fun _ _ => id)
    (fun d' => d'.endx.getLsbD v.val) (fun _ => false)
    (fun d' _ => (putBit_getLsbD d'.endx v.val v false).trans (if_pos rfl))
    (fun d' w hw => (putBit_getLsbD d'.endx w.val v false).trans (if_neg fun h => hw (Fin.ext h.symm)))
    mask (d := d.setReg 0x4C mask) trivial
  rw [write_kon, hbits]
  cases mask.getLsbD v.val <;> simp

/-- KOFF on one channel (R406). -/
theorem write_koff_channel (aram : Memory) (d : Dsp) (mask : Byte) (v : Fin 8) :
    (d.write aram 0x5C mask).channel v =
      if mask.getLsbD v.val then { d.channel v with phase := .release } else d.channel v := by
  rw [write_koff]
  exact forSetBits_observed (f := Dsp.keyOff) (P := fun _ => True) (fun _ _ => id) (fun d' => d'.channel v)
    (fun ch => { ch with phase := .release })
    (fun d' _ => (Dsp.channel_setChannel d' v v _).trans (if_pos rfl))
    (fun d' w hw => (Dsp.channel_setChannel d' w v _).trans (if_neg hw.symm)) mask
    (d := d.setReg 0x5C mask) trivial

/-- The soft reset of FLG on one channel (R402). -/
theorem write_flg_channel (aram : Memory) (d : Dsp) (val : Byte) (v : Fin 8) :
    (d.write aram 0x6C val).channel v =
      if val.getLsbD 7 then { d.channel v with phase := .release, env := 0 } else d.channel v := by
  have hall : (0xFF : Byte).getLsbD v.val = true := by
    fin_cases v <;> rfl
  have hreset := forSetBits_observed (f := Dsp.softReset) (P := fun _ => True) (fun _ _ => id)
    (fun d' => d'.channel v) (fun ch => { ch with phase := .release, env := 0 })
    (fun d' _ => (Dsp.channel_setChannel d' v v _).trans (if_pos rfl))
    (fun d' w hw => (Dsp.channel_setChannel d' w v _).trans (if_neg hw.symm)) 0xFF
    (d := d.setReg 0x6C val) trivial
  rw [if_pos hall] at hreset
  rw [write_flg]
  split
  · exact hreset
  · rfl

/-! The registers of a channel. -/

theorem toNat_channelReg (v : Fin 8) {k : Nat} (hk : k < 16) : (channelReg v k).toNat = 16 * v.val + k := by
  have := v.isLt
  rw [channelReg, BitVec.toNat_ofNat]
  omega

theorem channelReg_register (v : Fin 8) {k : Nat} (hk : k < 16) : (channelReg v k).toNat % 16 = k := by
  rw [toNat_channelReg v hk]
  omega

theorem dspChannelOf_channelReg (v : Fin 8) {k : Nat} (hk : k < 16) : dspChannelOf (channelReg v k) = v := by
  apply Fin.ext
  show (channelReg v k).toNat / 16 = v.val
  rw [toNat_channelReg v hk]
  omega

theorem toNat_append_eq_add {m n : Nat} (hi : BitVec m) (lo : BitVec n) :
    (hi ++ lo).toNat = hi.toNat * 2 ^ n + lo.toNat := by
  rw [BitVec.toNat_append, ← Nat.shiftLeft_add_eq_or_of_lt lo.isLt, Nat.shiftLeft_eq]

/-- A write to a register of a channel updates the field of R402. -/
theorem fieldWritten_writeChannelReg (k : Nat) (val : Byte) (ch : Channel) :
    FieldWritten k val ch (writeChannelReg k val ch) := by
  match k with
  | 0 | 1 | 4 | 5 | 6 | 7 => rfl
  | 2 =>
    refine ⟨rfl, (toNat_append_eq_add _ _).trans ?_⟩
    have hpitch := ch.pitch.isLt
    rw [BitVec.extractLsb'_toNat, Nat.shiftRight_eq_div_pow]
    omega
  | 3 =>
    refine ⟨rfl, (toNat_append_eq_add _ _).trans ?_⟩
    rw [BitVec.extractLsb'_toNat, BitVec.extractLsb'_toNat, Nat.shiftRight_zero, Nat.shiftRight_zero]
    rfl
  | _ + 8 => rfl

/-- A write outside KON, KOFF and FLG updates at most a field of the register's own channel (R402). -/
theorem write_channel (aram : Memory) (d : Dsp) {a : BitVec 7} (val : Byte) (ha : a ∉ [0x4C, 0x5C, 0x6C])
    (v : Fin 8) : (d.write aram a val).channel v =
      if v = dspChannelOf a then writeChannelReg (a.toNat % 16) val (d.channel v) else d.channel v := by
  by_cases hendx : a = 0x7C
  · subst hendx
    exact (ite_self _).symm
  · have hother : a ∉ [0x4C, 0x5C, 0x6C, 0x7C] := by
      simp only [List.mem_cons, List.not_mem_nil, or_false, not_or] at ha ⊢
      tauto
    rw [write_other aram d val hother, Dsp.channel_setChannel]
    split
    · rename_i hv
      rw [hv]
    · rfl

/-! Reads. -/

/-- ENVX reads the level of its channel live (R404). -/
theorem read_envx (d : Dsp) (v : Fin 8) : d.read (channelReg v 8) = (d.channel v).envx := by
  have hreg := channelReg_register v (k := 8) (by decide)
  have hendx : channelReg v 8 ≠ 0x7C := fun h => by simp [h] at hreg
  rw [Dsp.read, if_neg hendx, if_pos hreg, dspChannelOf_channelReg v (by decide)]

/-- OUTX reads the output of its channel live (R404). -/
theorem read_outx (d : Dsp) (v : Fin 8) : d.read (channelReg v 9) = (d.channel v).outx := by
  have hreg := channelReg_register v (k := 9) (by decide)
  have hendx : channelReg v 9 ≠ 0x7C := fun h => by simp [h] at hreg
  rw [Dsp.read, if_neg hendx, if_neg (by omega), if_pos hreg, dspChannelOf_channelReg v (by decide)]

theorem toNat_envx (ch : Channel) : ch.envx.toNat = ch.env.toNat / 16 := by
  have := ch.env.isLt
  rw [Channel.envx, BitVec.toNat_setWidth, BitVec.toNat_ushiftRight, Nat.shiftRight_eq_div_pow]
  omega

/-- Settles O58: KON, KOFF and FLG on each channel, the fields of the channel registers, and the reads. -/
theorem keyOnAndKeyOff : Obligations.KeyOnAndKeyOff := by
  unfold Obligations.KeyOnAndKeyOff
  intro aram d mask v
  refine ⟨write_kon_channel aram d mask v, write_kon_endx aram d mask v, write_koff_channel aram d mask v,
    write_keeps_endx aram d mask (by decide), write_flg_channel aram d mask v, rfl, fun w k hk hreg => ?_,
    fun a => ⟨?_, fun b hb => ?_, write_keeps_endx aram d mask, ?_⟩, rfl, ?_, ?_, fun a hendx henvx houtx => ?_⟩
  · rw [write_channel aram d mask hreg v, dspChannelOf_channelReg w hk, channelReg_register w hk]
    split
    · rename_i hw
      rw [if_pos hw.symm]
      exact fieldWritten_writeChannelReg k mask _
    · rename_i hw
      exact if_neg (Ne.symm hw)
  · rw [write_frame]
    exact (Dsp.reg_setReg d a a mask).trans (if_pos rfl)
  · rw [write_frame]
    exact (Dsp.reg_setReg d a b mask).trans (if_neg hb)
  · rw [write_frame]
    rfl
  · rw [read_envx d v, toNat_envx]
  · exact read_outx d v
  · rw [Dsp.read, if_neg hendx, if_neg henvx, if_neg houtx]

end Sys2Proof.Claims
end

section
/-! PROOFS. The envelope (R406, R413): what a step does in each phase and mode, release's way to silence, and the limits
of `EnvelopeRate`. -/

namespace Sys2Proof.Claims

open Sys2Proof.Machine

/-! The envelope step by phase and mode (R413). -/

theorem envelopeStep_of_release {ch : Channel} (n : Nat) (hp : ch.phase = .release) :
    ch.envelopeStep n = ch.release := if_pos hp

theorem envelopeStep_of_attack {ch : Channel} (n : Nat) (hp : ch.phase = .attack) (ha : ch.adsr1.getLsbD 7 = true) :
    ch.envelopeStep n = ch.attack n := by
  simp [Channel.envelopeStep, hp, ha]

theorem envelopeStep_of_decay {ch : Channel} (n : Nat) (hp : ch.phase = .decay) (ha : ch.adsr1.getLsbD 7 = true) :
    ch.envelopeStep n = ch.decay n := by
  simp [Channel.envelopeStep, hp, ha]

theorem envelopeStep_of_sustain {ch : Channel} (n : Nat) (hp : ch.phase = .sustain)
    (ha : ch.adsr1.getLsbD 7 = true) : ch.envelopeStep n = ch.sustain n := by
  simp [Channel.envelopeStep, hp, ha]

theorem envelopeStep_of_gain {ch : Channel} (n : Nat) (hp : ch.phase ≠ .release) (ha : ch.adsr1.getLsbD 7 = false) :
    ch.envelopeStep n = ch.gainStep n := by
  rw [Channel.envelopeStep, if_neg hp, ha, if_neg Bool.false_ne_true]

/-- An envelope step moves the level and the phase, and outside release nothing else (R413). -/
theorem envelopeStep_frame {ch : Channel} (n : Nat) (hp : ch.phase ≠ .release) : ch.envelopeStep n =
    { ch with env := (ch.envelopeStep n).env, phase := (ch.envelopeStep n).phase } := by
  by_cases ha : ch.adsr1.getLsbD 7 = true
  · cases hphase : ch.phase with
    | attack =>
      rw [envelopeStep_of_attack n hphase ha, Channel.attack]
      split_ifs <;> rfl
    | decay =>
      rw [envelopeStep_of_decay n hphase ha]
      rfl
    | sustain =>
      rw [envelopeStep_of_sustain n hphase ha]
      rfl
    | release => exact absurd hphase hp
  · rw [envelopeStep_of_gain n hp (Bool.eq_false_iff.mpr ha), Channel.gainStep]
    split <;> rfl

/-! `EnvelopeRate`. -/

/-- The period of a lower rate is at least as long. -/
theorem envelopePeriodBelow_mono : Monotone Config.envelopePeriodBelow :=
  monotone_nat_of_le_succ fun _ => Nat.le_add_right _ _

/-- Among any `p` successive numbers exactly one is a multiple of `p`. -/
theorem existsUnique_add_mod_eq_zero (m : Nat) {p : Nat} (hp : 0 < p) : ∃! k, k < p ∧ (m + k) % p = 0 := by
  have hm := Nat.mod_lt m hp
  have hsum (k : Nat) : (m + k) % p = (m % p + k) % p := (Nat.mod_add_mod m p k).symm
  by_cases h0 : m % p = 0
  · refine ⟨0, ⟨hp, h0⟩, fun k ⟨hk, hmod⟩ => ?_⟩
    rwa [hsum, h0, Nat.zero_add, Nat.mod_eq_of_lt hk] at hmod
  · refine ⟨p - m % p, ⟨by omega, ?_⟩, fun k ⟨hk, hmod⟩ => ?_⟩
    · rw [hsum, Nat.add_sub_cancel' hm.le, Nat.mod_self]
    · rw [hsum] at hmod
      have hsame := Nat.eq_of_dvd_of_lt_two_mul (by omega) (Nat.dvd_of_mod_eq_zero hmod) (by omega)
      omega

theorem rateLimits : RateLimits where
  never _ := rfl
  always n := by
    have hperiod : Config.envelopePeriod 31 = 1 := rfl
    simp [Config.envelopeDue, hperiod, Nat.mod_one]
  once r n hr _ := by
    have hdue (k : Nat) : Config.envelopeDue r (n + k) = true ↔
        (n + Config.envelopeOffset r + k) % Config.envelopePeriod r = 0 := by
      simp [Config.envelopeDue, Nat.ne_of_gt hr, Nat.add_right_comm]
    simp only [hdue]
    exact existsUnique_add_mod_eq_zero _ (envelopePeriodBelow_pos _)
  shorter r q _ hrq _ := envelopePeriodBelow_mono (by omega)

/-! Release. -/

/-- A step in release falls by 8 and keys the channel off when it reaches silence (R413). -/
theorem release_falls (ch : Channel) : ch.release.phase = ch.phase ∧
    ch.release.env.toNat = ch.env.toNat - 8 ∧ (ch.env.toNat ≤ 8 → ch.release.keyOn = false) := by
  unfold Channel.release
  dsimp only
  split
  · exact ⟨rfl, by simp; omega, fun _ => rfl⟩
  · have hlevel := ch.env.isLt
    refine ⟨rfl, ?_, fun h => absurd h (by omega)⟩
    dsimp only
    rw [envLevel_toNat]
    omega

/-- After a run of steps in release the level has fallen by 8 for each, and is 0 once as many as 256 have passed. -/
theorem releases_fall {ch : Channel} (hp : ch.phase = .release) (samples : List Nat) :
    let after := samples.foldl (fun c n => c.envelopeStep n) ch
    after.phase = .release ∧ after.env.toNat = ch.env.toNat - 8 * samples.length ∧
      (256 ≤ samples.length → after.keyOn = false) := by
  have hlevel := ch.env.isLt
  induction samples using List.reverseRecOn with
  | nil => exact ⟨hp, by simp, by simp⟩
  | append_singleton samples n ih =>
    obtain ⟨hphase, henv, -⟩ := ih
    rw [List.foldl_append, List.foldl_cons, List.foldl_nil, List.length_append, List.length_singleton,
      envelopeStep_of_release n hphase]
    obtain ⟨hphase', henv', hoff⟩ := release_falls (samples.foldl (fun c n => c.envelopeStep n) ch)
    exact ⟨hphase'.trans hphase, by omega, fun h => hoff (by omega)⟩

/-! The other phases and GAIN. -/

theorem toNat_envLevel_natCast (n : Nat) : (envLevel (n : Int)).toNat = min n 0x7FF := by
  rw [envLevel_toNat]
  omega

/-- The exponential fall never passes 0 (R413). -/
theorem expDecrease_natCast (n : Nat) : expDecrease (n : Int) = (envFallen n : Nat) := by
  rw [expDecrease, envFallen]
  omega

theorem envFallen_le (n : Nat) : envFallen n ≤ n := Nat.sub_le _ _

/-- A level that falls exponentially when it is due (R413). -/
theorem decrease_natCast (due : Bool) (n : Nat) :
    (if due then expDecrease (n : Int) else n) = ((if due then envFallen n else n : Nat) : Int) := by
  cases due
  · rfl
  · exact expDecrease_natCast n

theorem toNat_envLevel_decrease (due : Bool) {n : Nat} (h : n < 2 ^ 11) :
    (envLevel (if due then expDecrease (n : Int) else n)).toNat = if due then envFallen n else n := by
  have hfallen := envFallen_le n
  rw [decrease_natCast, toNat_envLevel_natCast]
  split <;> omega

/-- The attack step rises, and becomes decay at the top (R413). -/
theorem attack_moves (n : Nat) (ch : Channel) (hp : ch.phase = .attack) :
    let r := 2 * (ch.adsr1.toNat % 16) + 1
    let env := ch.env.toNat + if Config.envelopeDue r n then (if r = 31 then 0x400 else 0x20) else 0
    EnvelopeMoved ch (ch.attack n) (min env 0x7FF) (if 0x7FF ≤ env then .decay else .attack) := by
  intro r env
  have henv : (if Config.envelopeDue r n then (ch.env.toNat : Int) + (if r = 31 then 0x400 else 0x20)
      else ch.env.toNat) = (env : Int) := by
    dsimp only [env]
    split_ifs <;> rfl
  unfold Channel.attack
  dsimp only
  rw [henv]
  by_cases htop : 0x7FF ≤ env
  · rw [if_pos (by omega), if_pos htop]
    exact ⟨by simp [htop], rfl, rfl⟩
  · rw [if_neg (by omega), if_neg htop]
    exact ⟨toNat_envLevel_natCast env, hp, rfl⟩

/-- The decay step falls, and becomes sustain at the level that ADSR2 gives (R413). -/
theorem decay_moves (n : Nat) (ch : Channel) (hp : ch.phase = .decay) :
    let env := if Config.envelopeDue (2 * (ch.adsr1.toNat / 16 % 8) + 16) n then envFallen ch.env.toNat
      else ch.env.toNat
    EnvelopeMoved ch (ch.decay n) env (if env / 256 ≤ ch.adsr2.toNat / 32 then .sustain else .decay) := by
  refine ⟨toNat_envLevel_decrease _ ch.env.isLt, ?_, rfl⟩
  unfold Channel.decay
  dsimp only
  rw [decrease_natCast, hp]
  congr 1
  exact propext (by omega)

theorem sustain_moves (n : Nat) (ch : Channel) (hp : ch.phase = .sustain) :
    EnvelopeMoved ch (ch.sustain n)
      (if Config.envelopeDue (ch.adsr2.toNat % 32) n then envFallen ch.env.toNat else ch.env.toNat) .sustain :=
  ⟨toNat_envLevel_decrease _ ch.env.isLt, hp, rfl⟩

/-- GAIN as a level (R413). -/
theorem gainStep_direct_moves (n : Nat) (ch : Channel) (hg : ch.gain.getLsbD 7 = false) :
    EnvelopeMoved ch (ch.gainStep n) (16 * (ch.gain.toNat % 128)) ch.phase := by
  unfold Channel.gainStep
  dsimp only
  rw [hg, if_neg Bool.false_ne_true]
  refine ⟨?_, rfl, rfl⟩
  dsimp only
  rw [toNat_envLevel_natCast]
  omega

/-- The move of each GAIN mode (R413). -/
theorem toNat_envLevel_gainMove (mode : Nat) {env : Nat} (h : env < 2 ^ 11) :
    (envLevel (gainMove mode env)).toNat = match mode with
      | 0 => env - 0x20
      | 1 => envFallen env
      | 2 => min (env + 0x20) 0x7FF
      | _ => min (env + if env < 0x600 then 0x20 else 8) 0x7FF := by
  match mode with
  | 0 =>
    show (envLevel ((env : Int) - 0x20)).toNat = env - 0x20
    rw [envLevel_toNat]
    omega
  | 1 => exact toNat_envLevel_decrease true h
  | 2 => exact toNat_envLevel_natCast (env + 0x20)
  | mode + 3 =>
    have hmove : gainMove (mode + 3) env = ((env + if env < 0x600 then 0x20 else 8 : Nat) : Int) := by
      show (env : Int) + (if (env : Int) < 0x600 then 0x20 else 8) = _
      split_ifs <;> omega
    rw [hmove]
    exact toNat_envLevel_natCast _

/-- GAIN as a move, when it is due (R413). -/
theorem gainStep_mode_moves (n : Nat) (ch : Channel) (hg : ch.gain.getLsbD 7 = true) :
    let env := ch.env.toNat
    let moved := match ch.gain.toNat / 32 % 4 with
      | 0 => env - 0x20
      | 1 => envFallen env
      | 2 => min (env + 0x20) 0x7FF
      | _ => min (env + if env < 0x600 then 0x20 else 8) 0x7FF
    EnvelopeMoved ch (ch.gainStep n) (if Config.envelopeDue (ch.gain.toNat % 32) n then moved else env) ch.phase := by
  have henv : ch.env.toNat < 2 ^ 11 := ch.env.isLt
  unfold Channel.gainStep
  dsimp only
  rw [if_pos hg]
  refine ⟨?_, rfl, rfl⟩
  dsimp only
  split
  · exact toNat_envLevel_gainMove _ henv
  · exact (toNat_envLevel_natCast _).trans (by omega)

theorem envelopeSteps (n : Nat) (ch : Channel) : EnvelopeSteps n ch (ch.envelopeStep n) where
  attack hp ha := envelopeStep_of_attack n hp ha ▸ attack_moves n ch hp
  decay hp ha := envelopeStep_of_decay n hp ha ▸ decay_moves n ch hp
  sustain hp ha := envelopeStep_of_sustain n hp ha ▸ sustain_moves n ch hp
  direct hp ha hg := envelopeStep_of_gain n hp ha ▸ gainStep_direct_moves n ch hg
  gain hp ha hg := envelopeStep_of_gain n hp ha ▸ gainStep_mode_moves n ch hg

/-- Settles O59: the limits, the step of each phase and mode, and release by induction on the samples. -/
theorem releaseReachesSilence : Obligations.ReleaseReachesSilence := by
  unfold Obligations.ReleaseReachesSilence
  refine ⟨rateLimits, envelopeSteps, fun ch samples hp => ?_⟩
  obtain ⟨hphase, henv, hoff⟩ := releases_fall hp samples
  have hlevel := ch.env.isLt
  exact ⟨hphase, henv, fun h => ⟨BitVec.eq_of_toNat_eq (by rw [henv]; simp; omega), hoff h⟩⟩

end Sys2Proof.Claims
end

section
/-! PROOFS. A channel's source (R410 to R412): what a residual decodes to, what a source step makes of its channel and
of ENDX, and the pitch loop that repeats it. -/

namespace Sys2Proof.Claims

open Sys2Proof.Machine

/-! Decoding (R410). -/

/-- The model's clamp is the statements'. -/
theorem clamp16_eq (x : Int) : clamp16 x = clampSample x := by
  rw [clamp16, clampInt, clampSample, min_comm]

theorem clampSample_bounds (x : Int) : -32768 ≤ clampSample x ∧ clampSample x ≤ 32767 := by
  unfold clampSample
  omega

/-- A 4-bit residual is sign-extended (R410). -/
theorem sext4_toNat (nib : BitVec 4) : sext4 nib.toNat = nib.toInt := by
  rw [sext4, BitVec.toInt_eq_toNat_cond]
  split <;> split <;> omega

theorem brrResidual_eq (shift : Nat) (nib : BitVec 4) : brrResidual shift nib =
    if shift ≤ 12 then asr (sext4 nib.toNat * 2 ^ shift) 1 else if sext4 nib.toNat < 0 then -2048 else 0 := by
  rw [sext4_toNat]
  rfl

/-- Half of a value wrapped to 16 bits fits a word. -/
theorem toInt_wrap15 (s : Int) :
    (BitVec.ofInt 16 ((BitVec.ofInt 16 (2 * s)).toInt / 2)).toInt = asr ((2 * s + 32768) % 65536 - 32768) 1 := by
  simp only [BitVec.toInt_ofInt, Int.bmod_def, asr]
  omega

/-- A decoded sample is that of R410. -/
theorem toInt_brrSample (header : Byte) (nib : BitVec 4) (p1 p2 : Word) : (brrSample header nib p1 p2).toInt =
    decodedSample header.toNat (sext4 nib.toNat) p1.toInt p2.toInt := by
  have hfilter : header.toNat / 4 % 4 = 0 ∨ header.toNat / 4 % 4 = 1 ∨ header.toNat / 4 % 4 = 2 ∨
      header.toNat / 4 % 4 = 3 := by omega
  rw [brrSample, toInt_wrap15, brrResidual_eq, clamp16_eq, decodedSample]
  rcases hfilter with h | h | h | h <;> rw [h] <;> rfl

/-- The nibble of residual `brr_pos`: the high one of its byte first (R410). -/
theorem toNat_nibble (aram : Memory) (ch : Channel) :
    let data := (aramByte aram (ch.brrAddr + 1 + BitVec.ofNat 16 (ch.brrPos.toNat / 2))).toNat
    (ch.nibble aram).toNat = if ch.brrPos.toNat % 2 = 0 then data / 16 else data % 16 := by
  intro data
  have hdata : data < 256 := (aramByte aram _).isLt
  have hodd : ch.brrPos.getLsbD 0 = decide (ch.brrPos.toNat % 2 = 1) := by
    simp [BitVec.getLsbD, Nat.testBit_zero]
  rw [Channel.nibble]
  by_cases heven : ch.brrPos.toNat % 2 = 0
  · have hbit : ¬ ch.brrPos.getLsbD 0 = true := by
      rw [hodd, decide_eq_true_eq]
      omega
    rw [if_neg hbit, if_pos heven, BitVec.extractLsb'_toNat, Nat.shiftRight_eq_div_pow]
    omega
  · have hbit : ch.brrPos.getLsbD 0 = true := by
      rw [hodd, decide_eq_true_eq]
      omega
    rw [if_pos hbit, if_neg heven, BitVec.extractLsb'_toNat]
    rfl

theorem decoded_decodeNext (aram : Memory) (ch : Channel) : Decoded aram ch (ch.decodeNext aram) where
  sample := by
    dsimp only
    rw [← toNat_nibble]
    exact toInt_brrSample _ _ _ _
  older := rfl
  frame := rfl

/-! Source steps (R411, R412). -/

/-- The end of a block on each channel (R412). -/
theorem endOfBlock_channel (aram : Memory) (v w : Fin 8) (d : Dsp) : (d.endOfBlock aram v).channel w =
    if w = v then blockEnded aram (d.reg 0x5D) (d.channel v) else d.channel w := by
  unfold Dsp.endOfBlock blockEnded
  dsimp only
  rw [Channel.header]
  split
  · split
    · exact Dsp.channel_setChannel _ v w _
    · exact Dsp.channel_setChannel _ v w _
  · exact Dsp.channel_setChannel _ v w _

/-- The end of a block on each bit of ENDX (R412). -/
theorem endOfBlock_endx (aram : Memory) (v w : Fin 8) (d : Dsp) : (d.endOfBlock aram v).endx.getLsbD w.val =
    (d.endx.getLsbD w.val || (decide (w = v) && (aramByte aram (d.channel v).brrAddr).getLsbD 0)) := by
  have hend : (putBit d.endx v.val true).getLsbD w.val = (d.endx.getLsbD w.val || decide (w = v)) := by
    rw [putBit_getLsbD]
    by_cases hw : w = v
    · simp [hw]
    · simp [hw, Fin.val_ne_of_ne hw]
  unfold Dsp.endOfBlock
  dsimp only
  rw [Channel.header]
  split
  · rename_i hheader
    rw [hheader, Bool.and_true, ← hend]
    split <;> rfl
  · rename_i hheader
    rw [Bool.eq_false_iff.mpr hheader, Bool.and_false, Bool.or_false]
    rfl

/-- What a source step makes of its channel, `DIR` being the directory's page (R411). -/
def sourced (aram : Memory) (dir : Byte) (ch : Channel) : Channel :=
  if ch.brrPos.toNat < 15 then { ch.decodeNext aram with brrPos := ch.brrPos + 1 }
  else blockEnded aram dir (ch.decodeNext aram)

theorem brrPos_eq_iff (ch : Channel) : ch.brrPos = 15 ↔ ¬ ch.brrPos.toNat < 15 := by
  bv_omega

theorem sourceStep_channel (aram : Memory) (v w : Fin 8) (d : Dsp) : (d.sourceStep aram v).channel w =
    if w = v then sourced aram (d.reg 0x5D) (d.channel v) else d.channel w := by
  unfold Dsp.sourceStep sourced
  dsimp only
  by_cases hpos : (d.channel v).brrPos = 15
  · have hlast := (brrPos_eq_iff _).mp hpos
    rw [if_pos (show ((d.channel v).decodeNext aram).brrPos = 15 from hpos), if_neg hlast, endOfBlock_channel]
    simp only [Dsp.channel_setChannel, if_true, Dsp.reg_setChannel]
    split <;> rfl
  · have hmore : (d.channel v).brrPos.toNat < 15 := by
      by_contra h
      exact hpos ((brrPos_eq_iff _).mpr h)
    rw [if_neg (show ((d.channel v).decodeNext aram).brrPos ≠ 15 from hpos), if_pos hmore]
    exact Dsp.channel_setChannel d v w _

theorem sourceStep_endx (aram : Memory) (v w : Fin 8) (d : Dsp) : (d.sourceStep aram v).endx.getLsbD w.val =
    (d.endx.getLsbD w.val || (decide (w = v) && (decide ((d.channel v).brrPos.toNat = 15) &&
      (aramByte aram (d.channel v).brrAddr).getLsbD 0))) := by
  unfold Dsp.sourceStep
  dsimp only
  by_cases hpos : (d.channel v).brrPos = 15
  · rw [if_pos (show ((d.channel v).decodeNext aram).brrPos = 15 from hpos), endOfBlock_endx, hpos,
      Dsp.channel_setChannel, if_pos rfl]
    rfl
  · have hmore : (d.channel v).brrPos.toNat ≠ 15 := fun h => hpos (BitVec.eq_of_toNat_eq h)
    rw [if_neg (show ((d.channel v).decodeNext aram).brrPos ≠ 15 from hpos)]
    simp only [hmore, decide_false, Bool.false_and, Bool.and_false, Bool.or_false]
    rfl

theorem sourceStep_reg (aram : Memory) (v : Fin 8) (d : Dsp) (a : BitVec 7) :
    (d.sourceStep aram v).reg a = d.reg a := by
  rw [Dsp.sourceStep_frame]
  rfl

theorem sourceTurn_sourceStep (aram : Memory) (v : Fin 8) (d : Dsp) : SourceTurn aram v d (d.sourceStep aram v) where
  channel := ⟨_, decoded_decodeNext aram (d.channel v), (sourceStep_channel aram v v d).trans (if_pos rfl)⟩
  ended := by simp only [sourceStep_endx, decide_true, Bool.true_and]
  otherEnds w hw := by simp only [sourceStep_endx, hw, decide_false, Bool.false_and, Bool.or_false]
  others w hw := (sourceStep_channel aram v w d).trans (if_neg hw)
  frame := Dsp.sourceStep_frame aram v d

/-! The pitch loop (R411). -/

/-- The loop takes as many turns as the fraction holds units of $1000. -/
theorem pitchLoop_eq (turn : Dsp → Dsp) (fuel frac : Nat) (d : Dsp) (hfuel : frac / 0x1000 ≤ fuel) :
    pitchLoop turn fuel frac d = (applyTimes turn (frac / 0x1000) d, frac % 0x1000) := by
  induction fuel generalizing frac d with
  | zero =>
    have hfrac : frac < 0x1000 := by omega
    rw [pitchLoop, Nat.div_eq_of_lt hfrac, Nat.mod_eq_of_lt hfrac, applyTimes]
  | succ fuel ih =>
    rw [pitchLoop]
    split
    · rename_i hfrac
      rw [Nat.div_eq_of_lt hfrac, Nat.mod_eq_of_lt hfrac, applyTimes]
    · have hturns : frac / 0x1000 = (frac - 0x1000) / 0x1000 + 1 := by omega
      have hrest : frac % 0x1000 = (frac - 0x1000) % 0x1000 := by omega
      rw [ih _ _ (by omega), hturns, hrest, applyTimes]

/-- The pitch step is R411's loop: 16 bits of fraction and 14 of pitch hold fewer than 20 units. -/
theorem pitchStep_loops (aram : Memory) (v : Fin 8) (d : Dsp) {fuel : Nat} (hfuel : 20 ≤ fuel) :
    let looped := pitchLoop (Dsp.sourceStep aram v) fuel ((d.channel v).frac.toNat + (d.channel v).pitch.toNat) d
    looped.2 < 0x1000 ∧ d.pitchStep aram v =
      looped.1.setChannel v { looped.1.channel v with frac := BitVec.ofNat 16 looped.2 } := by
  have hfrac := (d.channel v).frac.isLt
  have hpitch := (d.channel v).pitch.isLt
  rw [pitchLoop_eq _ _ _ _ (by omega)]
  exact ⟨Nat.mod_lt _ (by decide), rfl⟩

/-- What source steps keep of a channel, and what does not look at `frac`, the pitch step keeps. -/
theorem pitchStep_keeps_channel {P : Channel → Prop} {aram : Memory} {v : Fin 8} {d : Dsp}
    (hsource : ∀ dir ch, P ch → P (sourced aram dir ch)) (hfrac : ∀ ch frac, P ch → P { ch with frac := frac })
    (h : P (d.channel v)) : P ((d.pitchStep aram v).channel v) := by
  have hturns := applyTimes_keeps (Dsp.sourceStep aram v) (fun d' => P (d'.channel v))
    (fun d' h => by
      rw [sourceStep_channel, if_pos rfl]
      exact hsource _ _ h)
    (((d.channel v).frac.toNat + (d.channel v).pitch.toNat) / 0x1000) d h
  unfold Dsp.pitchStep
  dsimp only
  rw [Dsp.channel_setChannel, if_pos rfl]
  exact hfrac _ _ hturns

end Sys2Proof.Claims
end

section
/-! PROOFS. The output sample (R415, R416): what a channel's turn in a sample reads and writes, so that the turns of
different channels do not meet, what the eight turns mix to, and when the ring is written. -/

namespace Sys2Proof.Claims

open Sys2Proof.Machine

/-! A channel's turn, and what other channels see of it (R415). -/

/-- Channel `v`, its ENDX bit, and the registers that its turn reads or writes are the same. -/
structure SameVoice (v : Fin 8) (d d' : Dsp) : Prop where
  channel : d'.channel v = d.channel v
  ended : d'.endx.getLsbD v.val = d.endx.getLsbD v.val
  regs : ∀ a, dspChannelOf a = v ∨ a.toNat % 16 ≠ 8 ∧ a.toNat % 16 ≠ 9 → d'.reg a = d.reg a
  sampleNumber : d'.sampleNumber = d.sampleNumber

theorem SameVoice.refl (v : Fin 8) (d : Dsp) : SameVoice v d d := ⟨rfl, rfl, fun _ _ => rfl, rfl⟩

theorem SameVoice.trans {v : Fin 8} {d d' d'' : Dsp} (h : SameVoice v d d') (h' : SameVoice v d' d'') :
    SameVoice v d d'' :=
  ⟨h'.channel.trans h.channel, h'.ended.trans h.ended, fun a ha => (h'.regs a ha).trans (h.regs a ha),
    h'.sampleNumber.trans h.sampleNumber⟩

theorem SameVoice.dir {v : Fin 8} {d d' : Dsp} (h : SameVoice v d d') : d'.reg 0x5D = d.reg 0x5D :=
  h.regs 0x5D (.inr (by decide))

/-- A change of one channel is not seen by another. -/
theorem sameVoice_setChannel {v w : Fin 8} (hw : w ≠ v) (d : Dsp) (ch : Channel) :
    SameVoice w d (d.setChannel v ch) :=
  ⟨(Dsp.channel_setChannel d v w ch).trans (if_neg hw), rfl, fun _ _ => rfl, rfl⟩

/-- The same change of the channel itself. -/
theorem SameVoice.setChannel {v : Fin 8} {d d' : Dsp} (h : SameVoice v d d') (ch : Channel) :
    SameVoice v (d.setChannel v ch) (d'.setChannel v ch) where
  channel := by rw [Dsp.channel_setChannel, Dsp.channel_setChannel, if_pos rfl, if_pos rfl]
  ended := h.ended
  regs := h.regs
  sampleNumber := h.sampleNumber

theorem sourceStep_sampleNumber (aram : Memory) (v : Fin 8) (d : Dsp) :
    (d.sourceStep aram v).sampleNumber = d.sampleNumber := by
  rw [Dsp.sourceStep_frame]

theorem sameVoice_sourceStep {v w : Fin 8} (hw : w ≠ v) (aram : Memory) (d : Dsp) :
    SameVoice w d (d.sourceStep aram v) where
  channel := (sourceStep_channel aram v w d).trans (if_neg hw)
  ended := by simp only [sourceStep_endx, hw, decide_false, Bool.false_and, Bool.or_false]
  regs a _ := sourceStep_reg aram v d a
  sampleNumber := sourceStep_sampleNumber aram v d

theorem SameVoice.sourceStep {v : Fin 8} {d d' : Dsp} (h : SameVoice v d d') (aram : Memory) :
    SameVoice v (d.sourceStep aram v) (d'.sourceStep aram v) where
  channel := by rw [sourceStep_channel, sourceStep_channel, h.channel, h.dir]
  ended := by rw [sourceStep_endx, sourceStep_endx, h.ended, h.channel]
  regs a ha := by rw [sourceStep_reg, sourceStep_reg, h.regs a ha]
  sampleNumber := by rw [sourceStep_sampleNumber, sourceStep_sampleNumber, h.sampleNumber]

theorem SameVoice.applyTimes_sourceStep {v : Fin 8} (aram : Memory) (n : Nat) {d d' : Dsp} (h : SameVoice v d d') :
    SameVoice v (applyTimes (Dsp.sourceStep aram v) n d) (applyTimes (Dsp.sourceStep aram v) n d') := by
  induction n generalizing d d' with
  | zero => exact h
  | succ n ih => exact ih (h.sourceStep aram)

theorem sameVoice_pitchStep {v w : Fin 8} (hw : w ≠ v) (aram : Memory) (d : Dsp) :
    SameVoice w d (d.pitchStep aram v) :=
  (applyTimes_keeps _ (SameVoice w d) (fun d' h => h.trans (sameVoice_sourceStep hw aram d')) _ d (.refl w d)).trans
    (sameVoice_setChannel hw _ _)

theorem SameVoice.pitchStep {v : Fin 8} {d d' : Dsp} (h : SameVoice v d d') (aram : Memory) :
    SameVoice v (d.pitchStep aram v) (d'.pitchStep aram v) := by
  have hturns := h.applyTimes_sourceStep aram (((d.channel v).frac.toNat + (d.channel v).pitch.toNat) / 0x1000)
  unfold Dsp.pitchStep
  dsimp only
  rw [h.channel, hturns.channel]
  exact hturns.setChannel _

/-- A pitch step touches its own channel and ENDX only (R411, R412). -/
theorem pitchStep_frame (aram : Memory) (v : Fin 8) (d : Dsp) : d.pitchStep aram v =
    { d with channels := (d.pitchStep aram v).channels, endx := (d.pitchStep aram v).endx } := by
  have hturns := applyTimes_keeps (Dsp.sourceStep aram v)
    (fun d' => d' = { d with channels := d'.channels, endx := d'.endx })
    (fun d' h => by rw [Dsp.sourceStep_frame, h])
    (((d.channel v).frac.toNat + (d.channel v).pitch.toNat) / 0x1000) d rfl
  unfold Dsp.pitchStep
  dsimp only
  rw [hturns]
  rfl

theorem pitchStep_sampleNumber (aram : Memory) (v : Fin 8) (d : Dsp) :
    (d.pitchStep aram v).sampleNumber = d.sampleNumber := by
  rw [pitchStep_frame]

/-- The channel's part of a turn, before its output is published: pitched and enveloped if it is keyed on. -/
theorem advanceChannel_channel (aram : Memory) (v : Fin 8) (d : Dsp) : (d.advanceChannel aram v).channel v =
    if (d.channel v).keyOn then ((d.pitchStep aram v).channel v).envelopeStep d.sampleNumber else d.channel v := by
  unfold Dsp.advanceChannel
  dsimp only
  split
  · rw [Dsp.channel_setChannel, if_pos rfl, pitchStep_sampleNumber]
  · rfl

theorem advanceChannel_endx (aram : Memory) (v : Fin 8) (d : Dsp) : (d.advanceChannel aram v).endx =
    if (d.channel v).keyOn then (d.pitchStep aram v).endx else d.endx := by
  unfold Dsp.advanceChannel
  dsimp only
  split <;> rfl

theorem advanceChannel_frame (aram : Memory) (v : Fin 8) (d : Dsp) : d.advanceChannel aram v =
    { d with channels := (d.advanceChannel aram v).channels, endx := (d.advanceChannel aram v).endx } := by
  unfold Dsp.advanceChannel
  dsimp only
  split
  · rw [pitchStep_frame]
    rfl
  · rfl

theorem sameVoice_advanceChannel {v w : Fin 8} (hw : w ≠ v) (aram : Memory) (d : Dsp) :
    SameVoice w d (d.advanceChannel aram v) := by
  unfold Dsp.advanceChannel
  split
  · exact (sameVoice_pitchStep hw aram d).trans (sameVoice_setChannel hw _ _)
  · exact .refl w d

theorem SameVoice.advanceChannel {v : Fin 8} {d d' : Dsp} (h : SameVoice v d d') (aram : Memory) :
    SameVoice v (d.advanceChannel aram v) (d'.advanceChannel aram v) := by
  have hpitch := h.pitchStep aram
  unfold Dsp.advanceChannel
  dsimp only
  rw [h.channel]
  split
  · rw [hpitch.channel, hpitch.sampleNumber]
    exact hpitch.setChannel _
  · exact h

/-! Publishing OUTX and ENVX. -/

/-- A register of the form `$v8` or `$v9` belongs to channel `v` only. -/
theorem ne_channelReg {v w : Fin 8} (hw : w ≠ v) {a : BitVec 7} {k : Nat} (hk : k = 8 ∨ k = 9)
    (ha : dspChannelOf a = w ∨ a.toNat % 16 ≠ 8 ∧ a.toNat % 16 ≠ 9) : a ≠ channelReg v k := by
  rintro rfl
  have hk' : k < 16 := by omega
  rw [dspChannelOf_channelReg v hk', channelReg_register v hk'] at ha
  omega

theorem channelReg_eight_ne_nine (v : Fin 8) : channelReg v 8 ≠ channelReg v 9 := fun h => by
  have hregister := channelReg_register v (k := 8) (by decide)
  rw [h, channelReg_register v (by decide)] at hregister
  omega

theorem publish_channel (v w : Fin 8) (out : Int) (d : Dsp) : (d.publish v out).channel w =
    if w = v then { d.channel v with outx := BitVec.ofInt 8 (out / 256) } else d.channel w :=
  Dsp.channel_setChannel d v w _

theorem publish_reg (v : Fin 8) (out : Int) (d : Dsp) (a : BitVec 7) : (d.publish v out).reg a =
    if a = channelReg v 9 then BitVec.ofInt 8 (out / 256)
    else if a = channelReg v 8 then (d.channel v).envx else d.reg a := by
  unfold Dsp.publish
  dsimp only
  rw [Dsp.reg_setReg, Dsp.reg_setReg, Dsp.channel_setChannel, if_pos rfl]
  rfl

theorem sameVoice_publish {v w : Fin 8} (hw : w ≠ v) (out : Int) (d : Dsp) : SameVoice w d (d.publish v out) where
  channel := (publish_channel v w out d).trans (if_neg hw)
  ended := rfl
  regs a ha := by rw [publish_reg, if_neg (ne_channelReg hw (.inr rfl) ha), if_neg (ne_channelReg hw (.inl rfl) ha)]
  sampleNumber := rfl

theorem SameVoice.publish {v : Fin 8} {d d' : Dsp} (h : SameVoice v d d') (out : Int) :
    SameVoice v (d.publish v out) (d'.publish v out) where
  channel := by rw [publish_channel, publish_channel, h.channel]
  ended := h.ended
  regs a ha := by rw [publish_reg, publish_reg, h.channel, h.regs a ha]
  sampleNumber := h.sampleNumber

/-! Whole turns. -/

/-- A channel's turn in an output sample (R415). -/
def channelTurn (aram : Memory) (d : Dsp) (v : Fin 8) : Dsp :=
  (d.advanceChannel aram v).publish v (channelOutput (d.channel v).keyOn ((d.advanceChannel aram v).channel v))

/-- Mixing takes the channels' turns one after another. -/
theorem mix_dsp (aram : Memory) (l : List (Fin 8)) (mix : Mix) :
    (l.foldl (Mix.add aram) mix).dsp = l.foldl (channelTurn aram) mix.dsp :=
  (List.foldl_hom Mix.dsp fun _ _ => rfl).symm

/-- A sample is the turns of all eight channels, and one more on the counter of samples (R415; log entry 20). -/
theorem produceSample_dsp (aram : Memory) (d : Dsp) : (d.produceSample aram).1 =
    { (List.finRange 8).foldl (channelTurn aram) d with
      sampleNumber := ((List.finRange 8).foldl (channelTurn aram) d).sampleNumber + 1 } := by
  rw [Dsp.produceSample, mix_dsp]

theorem sameVoice_channelTurn {v w : Fin 8} (hw : w ≠ v) (aram : Memory) (d : Dsp) :
    SameVoice w d (channelTurn aram d v) :=
  (sameVoice_advanceChannel hw aram d).trans (sameVoice_publish hw _ _)

theorem SameVoice.channelTurn {v : Fin 8} {d d' : Dsp} (h : SameVoice v d d') (aram : Memory) :
    SameVoice v (channelTurn aram d v) (channelTurn aram d' v) := by
  have hadvanced := h.advanceChannel aram
  unfold Claims.channelTurn
  rw [h.channel, hadvanced.channel]
  exact hadvanced.publish _

/-- After the turns of several channels each of these is as its own turn alone leaves it, and the others are as they
were: the turns do not meet (R415). -/
theorem sameVoice_turns (aram : Memory) (v : Fin 8) (l : List (Fin 8)) (hl : l.Nodup) (d : Dsp) :
    SameVoice v (if v ∈ l then channelTurn aram d v else d) (l.foldl (channelTurn aram) d) := by
  induction l generalizing d with
  | nil => exact .refl v d
  | cons w l ih =>
    obtain ⟨hw, hl⟩ := List.nodup_cons.mp hl
    have hrest := ih hl (channelTurn aram d w)
    rw [List.foldl_cons]
    by_cases hvw : v = w
    · subst hvw
      rw [if_neg hw] at hrest
      rwa [if_pos List.mem_cons_self]
    · have hkept := sameVoice_channelTurn hvw aram d
      simp only [List.mem_cons, hvw, false_or]
      refine SameVoice.trans ?_ hrest
      split
      · exact hkept.channelTurn aram
      · exact hkept

/-- A turn touches registers, channels and ENDX only (R415). -/
theorem channelTurn_frame (aram : Memory) (d : Dsp) (v : Fin 8) : channelTurn aram d v =
    { d with
      regs := (channelTurn aram d v).regs
      channels := (channelTurn aram d v).channels
      endx := (channelTurn aram d v).endx } := by
  unfold channelTurn
  rw [advanceChannel_frame]
  rfl

theorem turns_frame (aram : Memory) (l : List (Fin 8)) (d : Dsp) : l.foldl (channelTurn aram) d =
    { d with
      regs := (l.foldl (channelTurn aram) d).regs
      channels := (l.foldl (channelTurn aram) d).channels
      endx := (l.foldl (channelTurn aram) d).endx } :=
  List.foldlRecOn l (channelTurn aram)
    (motive := fun d' => d' = { d with regs := d'.regs, channels := d'.channels, endx := d'.endx })
    rfl fun d' h v _ => by rw [channelTurn_frame, h]

/-- What a channel contributes to a sample (R415). -/
def voiceOut (aram : Memory) (d : Dsp) (v : Fin 8) : Int :=
  channelOut (d.channel v).keyOn ((d.advanceChannel aram v).channel v)

theorem channelTurn_channel (aram : Memory) (d : Dsp) (v : Fin 8) : (channelTurn aram d v).channel v =
    { (d.advanceChannel aram v).channel v with outx := BitVec.ofInt 8 (asr (voiceOut aram d v) 8) } :=
  (publish_channel v v _ _).trans (if_pos rfl)

theorem channelTurn_reg (aram : Memory) (d : Dsp) (v : Fin 8) (a : BitVec 7) : (channelTurn aram d v).reg a =
    if a = channelReg v 9 then ((channelTurn aram d v).channel v).outx
    else if a = channelReg v 8 then ((channelTurn aram d v).channel v).envx else d.reg a := by
  rw [channelTurn_channel]
  refine (publish_reg v _ _ a).trans ?_
  rw [advanceChannel_frame]
  rfl

/-! The mix (R415). -/

/-- The channels have the same volumes. -/
def SameVolumes (ch ch' : Channel) : Prop := ch'.volL = ch.volL ∧ ch'.volR = ch.volR

theorem sameVolumes_sourced (aram : Memory) (dir : Byte) (ch : Channel) : SameVolumes ch (sourced aram dir ch) := by
  unfold sourced blockEnded
  dsimp only
  split_ifs <;> exact ⟨rfl, rfl⟩

theorem sameVolumes_envelopeStep (n : Nat) (ch : Channel) : SameVolumes ch (ch.envelopeStep n) := by
  by_cases hp : ch.phase = .release
  · rw [envelopeStep_of_release n hp, Channel.release]
    split <;> exact ⟨rfl, rfl⟩
  · rw [envelopeStep_frame n hp]
    exact ⟨rfl, rfl⟩

theorem SameVolumes.trans {ch ch' ch'' : Channel} (h : SameVolumes ch ch') (h' : SameVolumes ch' ch'') :
    SameVolumes ch ch'' := by
  obtain ⟨hleft, hright⟩ := h
  obtain ⟨hleft', hright'⟩ := h'
  exact ⟨hleft'.trans hleft, hright'.trans hright⟩

/-- Pitch and envelope leave a channel's volumes. -/
theorem sameVolumes_advanceChannel (aram : Memory) (v : Fin 8) (d : Dsp) :
    SameVolumes (d.channel v) ((d.advanceChannel aram v).channel v) := by
  rw [advanceChannel_channel]
  split
  · have hpitch : SameVolumes (d.channel v) ((d.pitchStep aram v).channel v) :=
      pitchStep_keeps_channel (fun dir ch h => h.trans (sameVolumes_sourced aram dir ch)) (fun _ _ => id) ⟨rfl, rfl⟩
    exact hpitch.trans (sameVolumes_envelopeStep _ _)
  · exact ⟨rfl, rfl⟩

/-- The two sums after the turns of several channels: each adds what it alone contributes. -/
theorem mix_sums (aram : Memory) (l : List (Fin 8)) (hl : l.Nodup) (mix : Mix) :
    (l.foldl (Mix.add aram) mix).left = l.foldl
      (fun sum v => clampSample (sum + asr (voiceOut aram mix.dsp v * (mix.dsp.channel v).volL.toInt) 7)) mix.left ∧
    (l.foldl (Mix.add aram) mix).right = l.foldl
      (fun sum v => clampSample (sum + asr (voiceOut aram mix.dsp v * (mix.dsp.channel v).volR.toInt) 7))
      mix.right := by
  induction l generalizing mix with
  | nil => exact ⟨rfl, rfl⟩
  | cons w l ih =>
    obtain ⟨hw, hl⟩ := List.nodup_cons.mp hl
    obtain ⟨hleft, hright⟩ := ih hl (mix.add aram w)
    obtain ⟨hvolL, hvolR⟩ := sameVolumes_advanceChannel aram w mix.dsp
    have hothers (v : Fin 8) (hv : v ∈ l) : SameVoice v mix.dsp (mix.add aram w).dsp :=
      sameVoice_channelTurn (fun h : v = w => hw (h ▸ hv)) aram mix.dsp
    have hout (v : Fin 8) (hv : v ∈ l) : voiceOut aram (mix.add aram w).dsp v = voiceOut aram mix.dsp v := by
      rw [voiceOut, voiceOut, ((hothers v hv).advanceChannel aram).channel, (hothers v hv).channel]
    have haddL : (mix.add aram w).left =
        clampSample (mix.left + asr (voiceOut aram mix.dsp w * (mix.dsp.channel w).volL.toInt) 7) := by
      rw [← clamp16_eq, ← hvolL]
      rfl
    have haddR : (mix.add aram w).right =
        clampSample (mix.right + asr (voiceOut aram mix.dsp w * (mix.dsp.channel w).volR.toInt) 7) := by
      rw [← clamp16_eq, ← hvolR]
      rfl
    rw [List.foldl_cons, List.foldl_cons, List.foldl_cons, hleft, hright, haddL, haddR]
    exact ⟨List.foldl_ext _ _ _ fun sum v hv => by rw [hout v hv, (hothers v hv).channel],
      List.foldl_ext _ _ _ fun sum v hv => by rw [hout v hv, (hothers v hv).channel]⟩

/-- The master volume and mute of FLG (R415). -/
theorem toInt_master (d : Dsp) (volume : Byte) (sum : Int) : (d.master volume sum).toInt =
    if (d.reg 0x6C).getLsbD 6 then 0 else clampSample (asr (sum * volume.toInt) 7) := by
  unfold Dsp.master
  split
  · rfl
  · have hbounds := clampSample_bounds (asr (sum * volume.toInt) 7)
    rw [clamp16_eq, BitVec.toInt_ofInt]
    show (clampSample (asr (sum * volume.toInt) 7)).bmod (2 ^ 16) = _
    exact Int.bmod_eq_of_le (by omega) (by omega)

/-- A product scaled down by a level below 2^11 is no larger than what was scaled (R415). -/
theorem channelOut_bounded (keyedOn : Bool) (ch : Channel) : (channelOut keyedOn ch).natAbs ≤ ch.p1.toInt.natAbs := by
  have hlevel : (ch.env.toNat : Int) ≤ 2048 := by exact_mod_cast ch.env.isLt.le
  have hlevel0 : (0 : Int) ≤ ch.env.toNat := Int.natCast_nonneg _
  unfold channelOut asr
  split
  · obtain hp | hp := le_total 0 ch.p1.toInt
    · have hlow := mul_nonneg hp hlevel0
      have hhigh := mul_le_mul_of_nonneg_left hlevel hp
      omega
    · have hhigh := mul_nonpos_of_nonpos_of_nonneg hp hlevel0
      have hlow := mul_le_mul_of_nonpos_left hlevel hp
      omega
  · exact Nat.zero_le _

/-- What each channel's turn leaves stands after the sample (R415). -/
theorem sameVoice_produceSample (aram : Memory) (d : Dsp) (v : Fin 8) :
    SameVoice v { channelTurn aram d v with sampleNumber := d.sampleNumber + 1 } (d.produceSample aram).1 := by
  have hturns := sameVoice_turns aram v (List.finRange 8) (List.nodup_finRange 8) d
  rw [if_pos (List.mem_finRange v)] at hturns
  rw [produceSample_dsp]
  generalize List.finRange 8 = l at *
  refine ⟨hturns.channel, hturns.ended, hturns.regs, ?_⟩
  rw [turns_frame]

theorem produceSample_channel (aram : Memory) (d : Dsp) (v : Fin 8) : (d.produceSample aram).1.channel v =
    { (d.advanceChannel aram v).channel v with outx := BitVec.ofInt 8 (asr (voiceOut aram d v) 8) } :=
  (sameVoice_produceSample aram d v).channel.trans (channelTurn_channel aram d v)

/-- The registers that a sample does not store (R415). -/
theorem produceSample_reg_kept (aram : Memory) (d : Dsp) {a : BitVec 7} (h8 : a.toNat % 16 ≠ 8)
    (h9 : a.toNat % 16 ≠ 9) : (d.produceSample aram).1.reg a = d.reg a := by
  have hne {k : Nat} (hk : k < 16) (ha : a.toNat % 16 ≠ k) : a ≠ channelReg 0 k := fun h =>
    ha (h ▸ channelReg_register 0 hk)
  have hturn : (d.produceSample aram).1.reg a = (channelTurn aram d 0).reg a :=
    (sameVoice_produceSample aram d 0).regs a (.inr ⟨h8, h9⟩)
  rw [hturn, channelTurn_reg, if_neg (hne (by decide) h9), if_neg (hne (by decide) h8)]

/-- The sums of the eight channels, as the master volumes find them (R415). -/
theorem produceSample_sums (aram : Memory) (d : Dsp) :
    (d.produceSample aram).2.left.toInt = (if (d.reg 0x6C).getLsbD 6 then 0 else
      clampSample (asr (mixed (voiceOut aram d) (fun v => (d.channel v).volL) * (d.reg 0x0C).toInt) 7)) ∧
    (d.produceSample aram).2.right.toInt = (if (d.reg 0x6C).getLsbD 6 then 0 else
      clampSample (asr (mixed (voiceOut aram d) (fun v => (d.channel v).volR) * (d.reg 0x1C).toInt) 7)) := by
  obtain ⟨hleft, hright⟩ := mix_sums aram (List.finRange 8) (List.nodup_finRange 8) ⟨d, 0, 0⟩
  have hflg := produceSample_reg_kept aram d (a := 0x6C) (by decide) (by decide)
  have hvolL := produceSample_reg_kept aram d (a := 0x0C) (by decide) (by decide)
  have hvolR := produceSample_reg_kept aram d (a := 0x1C) (by decide) (by decide)
  unfold Dsp.produceSample at *
  unfold mixed
  dsimp only at *
  generalize List.finRange 8 = l at *
  rw [toInt_master, toInt_master, hleft, hright]
  constructor
  · rw [← hflg, ← hvolL]; rfl
  · rw [← hflg, ← hvolR]; rfl

theorem sampleProduced_produceSample (aram : Memory) (d : Dsp) :
    SampleProduced aram d (d.produceSample aram).1 (d.produceSample aram).2 := by
  have hturn (v : Fin 8) : (d.produceSample aram).1.channel v = (channelTurn aram d v).channel v :=
    (sameVoice_produceSample aram d v).channel
  have hreg (v : Fin 8) {k : Nat} (hk : k < 16) :
      (d.produceSample aram).1.reg (channelReg v k) = (channelTurn aram d v).reg (channelReg v k) :=
    (sameVoice_produceSample aram d v).regs _ (.inl (dspChannelOf_channelReg v hk))
  have hended (v : Fin 8) :
      (d.produceSample aram).1.endx.getLsbD v.val = (d.advanceChannel aram v).endx.getLsbD v.val :=
    (sameVoice_produceSample aram d v).ended
  have hchannel := produceSample_channel aram d
  have hout (v : Fin 8) : channelOut (d.channel v).keyOn ((d.produceSample aram).1.channel v) = voiceOut aram d v := by
    rw [hchannel]
    rfl
  obtain ⟨hleft, hright⟩ := produceSample_sums aram d
  exact {
    keyedOn := fun v hv => by
      rw [hchannel, advanceChannel_channel, if_pos hv]
    keyedOff := fun v hv => by
      rw [hchannel, advanceChannel_channel, if_neg (by simp [hv])]
    outx := fun v => by
      rw [hout, hchannel, BitVec.toNat_ofInt]
      omega
    outxStored := fun v => by rw [hreg v (by decide), channelTurn_reg, if_pos rfl, hturn]
    envxStored := fun v => by
      rw [hreg v (by decide), channelTurn_reg, if_neg (channelReg_eight_ne_nine v), if_pos rfl, hturn, toNat_envx]
    left := by simp only [hout]; exact hleft
    right := by simp only [hout]; exact hright
    bounded := fun v => channelOut_bounded _ _
    otherRegs := fun a => produceSample_reg_kept aram d
    ends := fun v => by
      rw [hended, advanceChannel_endx]
      split <;> rfl
    frame := by
      rw [produceSample_dsp, turns_frame] }

/-! The ring (R416). -/

theorem applyTimes_add {α : Type} (f : α → α) (m n : Nat) (a : α) :
    applyTimes f (m + n) a = applyTimes f n (applyTimes f m a) := by
  induction m generalizing a with
  | zero => rw [Nat.zero_add, applyTimes]
  | succ m ih => rw [Nat.succ_add, applyTimes, ih, applyTimes]

/-- Below the cadence a tick only counts. -/
theorem tick_counts {cfg : Config} {d : Dsp} (aram : Memory) (h : d.stepCount + 1 < cfg.stepsPerSample) :
    d.tick cfg aram = { d with stepCount := d.stepCount + 1 } := by
  rw [Dsp.tick, if_neg (by omega)]

/-- At the cadence a tick writes the sample into the ring and moves the cursor on. -/
theorem tick_produces {cfg : Config} {d : Dsp} (aram : Memory) (h : cfg.stepsPerSample ≤ d.stepCount + 1) :
    (d.tick cfg aram).stepCount = 0 ∧ (d.tick cfg aram).writeCursor = (d.writeCursor + 1) % cfg.ringSize ∧
      (d.tick cfg aram).ring =
        ringPut d.ring d.writeCursor (Dsp.produceSample aram { d with stepCount := 0 }).2 := by
  have hcount : (Dsp.produceSample aram { d with stepCount := 0 }).1.stepCount = 0 := by
    rw [(sampleProduced_produceSample aram _).frame]
  have hring := (sameBuffer_produceSample aram { d with stepCount := 0 }).ring
  rw [Dsp.tick, if_pos h]
  generalize Dsp.produceSample aram { d with stepCount := 0 } = produced at *
  exact ⟨hcount, rfl, congrArg (fun ring => ringPut ring d.writeCursor produced.2) hring⟩

/-- Ticks short of the cadence, from a count of 0, count. -/
theorem ticks_count {cfg : Config} {d : Dsp} (aram : Memory) (h0 : d.stepCount = 0) (n : Nat)
    (hn : n < cfg.stepsPerSample) : applyTimes (Dsp.tick cfg aram) n d = { d with stepCount := n } := by
  induction n with
  | zero => rw [applyTimes, ← h0]
  | succ n ih => rw [applyTimes_succ, ih (by omega), tick_counts aram (by exact hn)]

/-- A cadence of ticks from a count of 0 is back at 0, the cursor one further. -/
theorem ticks_produce {cfg : Config} {d : Dsp} (aram : Memory) (hpos : 0 < cfg.stepsPerSample) (h0 : d.stepCount = 0) :
    (applyTimes (Dsp.tick cfg aram) cfg.stepsPerSample d).stepCount = 0 ∧
      (applyTimes (Dsp.tick cfg aram) cfg.stepsPerSample d).writeCursor = (d.writeCursor + 1) % cfg.ringSize := by
  obtain ⟨n, hn⟩ := Nat.exists_eq_succ_of_ne_zero hpos.ne'
  have hlast : applyTimes (Dsp.tick cfg aram) cfg.stepsPerSample d = { d with stepCount := n }.tick cfg aram := by
    rw [hn, applyTimes_succ, ticks_count aram h0 n (by omega)]
  obtain ⟨hcount, hcursor, -⟩ := tick_produces (cfg := cfg) (d := { d with stepCount := n }) aram hn.le
  rw [hlast]
  exact ⟨hcount, hcursor⟩

/-- Settles O56: decoding, the source step, the pitch loop, the mix and the tick, each by its own lemma; `n` cadences by
induction. -/
theorem sampleCadence : Obligations.SampleCadence := by
  unfold Obligations.SampleCadence
  refine ⟨decoded_decodeNext, sourceTurn_sourceStep, fun aram v d fuel => pitchStep_loops aram v d,
    sampleProduced_produceSample, fun cfg aram d => ⟨tick_counts aram, fun h => ?_, fun n hpos h0 hcursor => ?_⟩⟩
  · obtain ⟨hcount, hcursor, hring⟩ := tick_produces aram h
    refine ⟨hcount, hcursor, ?_, fun k hk => ?_⟩
    · rw [hring, ringSample_ringPut_same]
    · rw [hring, ringSample_ringPut_ne _ _ hk]
  · induction n with
    | zero =>
      rw [Nat.zero_mul, applyTimes]
      exact ⟨h0, (Nat.mod_eq_of_lt hcursor).symm⟩
    | succ n ih =>
      obtain ⟨hcount, hmoved⟩ := ih
      obtain ⟨hcount', hmoved'⟩ := ticks_produce aram hpos hcount
      rw [Nat.succ_mul, applyTimes_add]
      refine ⟨hcount', hmoved'.trans ?_⟩
      rw [hmoved, Nat.mod_add_mod]
      rfl

end Sys2Proof.Claims
end

section
/-! PROOFS. Silence (R414): a channel that is not keyed on stays silent and in release in every operation of the DSP
and of the coprocessor, and so in every step; with no channel keyed on a sample is (0, 0). -/

namespace Sys2Proof.Claims

open Sys2Proof.Machine

/-! One channel. -/

/-- The channel is keyed on, or silent and in release (R414). -/
def Silent (ch : Channel) : Prop := ch.keyOn = false → ch.env = 0 ∧ ch.phase = .release

theorem silenceInv_iff (d : Dsp) : d.SilenceInv ↔ ∀ v, Silent (d.channel v) := Iff.rfl

theorem silent_writeChannelReg {ch : Channel} (h : Silent ch) (k : Nat) (val : Byte) :
    Silent (writeChannelReg k val ch) := by
  unfold writeChannelReg
  split <;> exact h

/-- An envelope step keys off only a channel that release has brought to silence (R413). -/
theorem silent_envelopeStep {ch : Channel} (h : Silent ch) (n : Nat) : Silent (ch.envelopeStep n) := by
  by_cases hp : ch.phase = .release
  · rw [envelopeStep_of_release n hp, Channel.release]
    split
    · exact fun _ => ⟨rfl, hp⟩
    · rename_i hlevel
      intro hk
      obtain ⟨henv, -⟩ := h hk
      simp [henv] at hlevel
  · intro hk
    rw [envelopeStep_frame n hp] at hk
    obtain ⟨-, hrelease⟩ := h hk
    exact absurd hrelease hp

/-- A source step keys the channel off in silence, or leaves key, level and phase (R412). -/
theorem silent_sourced (aram : Memory) (dir : Byte) {ch : Channel} (h : Silent ch) : Silent (sourced aram dir ch) := by
  unfold sourced blockEnded
  dsimp only
  split_ifs
  · exact h
  · exact h
  · exact fun _ => ⟨rfl, rfl⟩
  · exact h

/-! The DSP. -/

/-- A register write keys channels on, releases them, or touches neither level nor phase (R402, R405, R406). -/
theorem silenceInv_write (aram : Memory) {d : Dsp} (h : d.SilenceInv) (a : BitVec 7) (val : Byte) :
    (d.write aram a val).SilenceInv := by
  rw [silenceInv_iff]
  intro v
  by_cases hkon : a = 0x4C
  · rw [hkon, write_kon_channel]
    split
    · exact fun hk : true = false => nomatch hk
    · exact h v
  by_cases hkoff : a = 0x5C
  · rw [hkoff, write_koff_channel]
    split
    · intro hk
      obtain ⟨henv, -⟩ := h v hk
      exact ⟨henv, rfl⟩
    · exact h v
  by_cases hflg : a = 0x6C
  · rw [hflg, write_flg_channel]
    split
    · exact fun _ => ⟨rfl, rfl⟩
    · exact h v
  have hother : a ∉ [0x4C, 0x5C, 0x6C] := by
    simp only [List.mem_cons, List.not_mem_nil, or_false, not_or]
    exact ⟨hkon, hkoff, hflg⟩
  rw [write_channel aram d val hother]
  split
  · exact silent_writeChannelReg (h v) _ val
  · exact h v

/-- A sample pitches and envelopes the channels that are keyed on and leaves the others (R415). -/
theorem silenceInv_produceSample (aram : Memory) {d : Dsp} (h : d.SilenceInv) :
    (d.produceSample aram).1.SilenceInv := by
  rw [silenceInv_iff]
  intro v
  have hturn : Silent ((d.advanceChannel aram v).channel v) := by
    rw [advanceChannel_channel]
    split
    · exact silent_envelopeStep
        (pitchStep_keeps_channel (P := Silent) (fun _ _ => silent_sourced aram _) (fun _ _ => id) (h v)) _
    · exact h v
  rw [produceSample_channel]
  exact hturn

theorem silenceInv_tick (cfg : Config) (aram : Memory) {d : Dsp} (h : d.SilenceInv) :
    (d.tick cfg aram).SilenceInv := by
  have hproduced := silenceInv_produceSample aram (d := { d with stepCount := 0 }) h
  rw [Dsp.tick]
  generalize Dsp.produceSample aram { d with stepCount := 0 } = produced at hproduced ⊢
  split
  · exact hproduced
  · exact h

/-- With no channel keyed on nothing is mixed, and a sample is silence on both sides (R415). -/
theorem produceSample_of_keyedOff (aram : Memory) {d : Dsp} (hoff : ∀ v, (d.channel v).keyOn = false) :
    (d.produceSample aram).2 = ⟨0, 0⟩ := by
  have hout (v : Fin 8) : voiceOut aram d v = 0 := by
    rw [voiceOut, hoff]
    rfl
  have hmixed (volume : Fin 8 → Byte) : mixed (voiceOut aram d) volume = 0 :=
    List.foldl_fixed' (fun v => by rw [hout, Int.zero_mul]; rfl) _
  obtain ⟨hleft, hright⟩ := produceSample_sums aram d
  have hsilent (volume : Byte) : clampSample (asr (0 * volume.toInt) 7) = 0 := by
    rw [Int.zero_mul]
    rfl
  rw [hmixed, hsilent, ite_self] at hleft hright
  exact congrArg₂ Sample.mk (BitVec.eq_of_toInt_eq hleft) (BitVec.eq_of_toInt_eq hright)

/-! The coprocessor's program reaches the DSP through its data register only (R372). -/

/-- A write by the coprocessor leaves the DSP or is a write of a DSP register. -/
theorem apuWrite_dsp (a : Apu) (x : Word) (v : Byte) :
    (a.write x v).dsp = a.dsp ∨ (a.write x v).dsp = a.dsp.write a.aram (a.dspAddr.setWidth 7) v := by
  have left {p : Prop} [Decidable p] {b c : Apu} (hb : b.dsp = a.dsp)
      (hc : c.dsp = a.dsp ∨ c.dsp = a.dsp.write a.aram (a.dspAddr.setWidth 7) v) :
      (if p then b else c).dsp = a.dsp ∨ (if p then b else c).dsp = a.dsp.write a.aram (a.dspAddr.setWidth 7) v := by
    split
    · exact .inl hb
    · exact hc
  unfold Apu.write
  iterate 3 refine left rfl ?_
  split
  · split
    · exact .inr rfl
    · exact .inl rfl
  iterate 8 refine left rfl ?_
  exact .inl rfl

/-- A read by the coprocessor leaves the DSP. -/
theorem apuRead_dsp (a : Apu) (x : Word) : (a.read x).2.dsp = a.dsp := by
  unfold Apu.read
  iterate 11 refine iteInduction (motive := fun r : Byte × Apu => r.2.dsp = a.dsp) (fun _ => rfl) fun _ => ?_
  rfl

/-- What every register write keeps of the DSP, a coprocessor instruction keeps, whatever it is (R365). -/
theorem spc700Exec_keeps_dsp (P : Dsp → Prop) (hwrite : ∀ aram d r v, P d → P (Dsp.write aram d r v)) {a : Apu}
    (h : P a.dsp) : P a.spc700Exec.dsp := by
  have hperform (action : Spc700Action) : ∀ b : Apu, P b.dsp → P (b.perform action).dsp := by
    induction action with
    | done regs => exact fun _ hb => hb
    | read x next ih => exact fun b hb => ih _ _ ((apuRead_dsp b x).symm ▸ hb)
    | write x v next ih =>
      refine fun b hb => ih _ ?_
      obtain hsame | hreg := apuWrite_dsp b x v
      · rwa [hsame]
      · rw [hreg]
        exact hwrite _ _ _ _ hb
  have hfetch : P (a.read a.regs.pc).2.dsp := (apuRead_dsp a _).symm ▸ h
  unfold Apu.spc700Exec
  dsimp only
  split
  · exact hperform _ _ hfetch
  · exact hfetch

theorem silenceInv_cycle (cfg : Config) {a : Apu} (h : a.dsp.SilenceInv) : (a.cycle cfg).dsp.SilenceInv :=
  silenceInv_tick cfg _ (spc700Exec_keeps_dsp Dsp.SilenceInv (fun aram _ r v h => silenceInv_write aram h r v) h)

/-! Steps. -/

theorem silenceInv_reset (ring : Ring) : (Dsp.reset ring).SilenceInv := by
  rw [silenceInv_iff]
  intro v _
  simp [Dsp.channel, Dsp.reset, Channel.reset]

/-- `Step()` of the CPU leaves the coprocessor (R75, R454). -/
theorem engineStep_apu {s t : State} (h : engineStep s = .next t) : t.apu = s.apu := by
  have hsame : engineStep s = withApu s.apu (engineStep s) := engineStep_withApu s s.apu
  rw [h] at hsame
  have ht : t = { t with apu := s.apu } := Host.Outcome.next.inj hsame
  rw [ht]

/-- Each host operation keeps silent channels silent (R466). -/
theorem silenceInv_hostEffect {s : State} (h : s.apu.dsp.SilenceInv) (a : HostAction) :
    (hostEffect a s).apu.dsp.SilenceInv := by
  cases a with
  | apuReset ring => exact silenceInv_reset _
  | cycle => exact silenceInv_cycle s.config h
  | runCycles n =>
    exact applyTimes_keeps _ (fun a : Apu => a.dsp.SilenceInv) (fun _ => silenceInv_cycle s.config) n _ h
  | _ => exact h

/-- Settles O57: the CPU leaves the coprocessor, every host operation keeps the invariant, and silent channels mix to
silence. -/
theorem silenceIsInvariant : Obligations.SilenceIsInvariant := by
  unfold Obligations.SilenceIsInvariant
  refine ⟨fun s t h ht => ?_, silenceInv_reset [], fun aram d => produceSample_of_keyedOff aram⟩
  obtain hstep | ⟨a, rest, -, -, hstep⟩ := step_cases s
  · rw [engineStep_apu (hstep.symm.trans ht)]
    exact h
  · rw [hstep] at ht
    cases ht
    exact silenceInv_hostEffect (s := { s with hostQueue := rest }) h a

end Sys2Proof.Claims
end

section
/-! PROOFS. The coprocessor (R363 to R389): its timers, its I/O page, the upload into ARAM, and its reset. -/

namespace Sys2Proof.Claims

open Sys2Proof.Machine

/-! Timers (R371). -/

theorem timer_tickTimers (a : Apu) (t : Fin 3) : a.tickTimers.timer t = (a.timer t).tick :=
  Vector.getElem_map _ _

/-- An enabled timer counts, and on its target reloads and fires. -/
theorem timer_tick_of_enabled {timer : Timer} (h : timer.enabled = true) :
    let next := (timer.counter.toNat + 1) % 256
    timer.tick =
      { timer with
        counter := BitVec.ofNat 8 (if next = timer.target.toNat then 0 else next)
        out := BitVec.ofNat 4 (if next = timer.target.toNat then timer.out.toNat + 1 else timer.out.toNat) } := by
  intro next
  have hnext : timer.counter + 1 = BitVec.ofNat 8 next := by bv_omega
  have htarget : timer.counter + 1 = timer.target ↔ next = timer.target.toNat := by bv_omega
  rw [Timer.tick, if_pos h]
  by_cases hfires : next = timer.target.toNat
  · rw [if_pos (htarget.mpr hfires), if_pos hfires, if_pos hfires, ← BitVec.ofNat_add_ofNat, BitVec.ofNat_toNat,
      BitVec.setWidth_eq]
    rfl
  · rw [if_neg (mt htarget.mp hfires), if_neg hfires, if_neg hfires, hnext, BitVec.ofNat_toNat, BitVec.setWidth_eq]

theorem timer_tick_of_disabled {timer : Timer} (h : timer.enabled = false) : timer.tick = timer :=
  if_neg (ne_true_of_eq_false h)

theorem timerPeriod_pos (timer : Timer) : 0 < timerPeriod timer := by
  unfold timerPeriod
  split <;> omega

/-- A counter at `r` reaches the target, or wraps to a target of 0, when `r + 1` is the period. -/
theorem counter_reaches_target {timer : Timer} {r : Nat} (hr : r < timerPeriod timer) :
    BitVec.ofNat 8 r + 1 = timer.target ↔ r + 1 = timerPeriod timer := by
  unfold timerPeriod at *
  split at hr <;> rename_i htarget
  · rw [if_pos htarget]
    bv_omega
  · rw [if_neg htarget]
    bv_omega

/-- The quotient and remainder of the next number. -/
theorem succ_div_mod (n : Nat) {p : Nat} (hp : 0 < p) :
    (n + 1) / p = (if n % p + 1 = p then n / p + 1 else n / p) ∧
      (n + 1) % p = if n % p + 1 = p then 0 else n % p + 1 := by
  have hn := Nat.mod_add_div n p
  have hr := Nat.mod_lt n hp
  split
  · exact (Nat.div_mod_unique hp).mpr ⟨by rw [Nat.mul_add, Nat.mul_one]; omega, hp⟩
  · exact (Nat.div_mod_unique hp).mpr ⟨by omega, by omega⟩

/-- From 0 an enabled timer has after `n` ticks fired `n / p` times and stands at `n % p`. -/
theorem timer_ticks_of_enabled {timer : Timer} (h : timer.enabled = true) (h0 : timer.counter = 0) (n : Nat) :
    applyTimes Timer.tick n timer =
      { timer with
        counter := BitVec.ofNat 8 (n % timerPeriod timer)
        out := timer.out + BitVec.ofNat 4 (n / timerPeriod timer) } := by
  induction n with
  | zero =>
    have hout : timer.out + BitVec.ofNat 4 (0 / timerPeriod timer) = timer.out := by
      rw [Nat.zero_div]
      exact BitVec.add_zero _
    have hcounter : BitVec.ofNat 8 (0 % timerPeriod timer) = timer.counter := by
      rw [Nat.zero_mod]
      exact h0.symm
    rw [applyTimes, hout, hcounter]
  | succ n ih =>
    obtain ⟨hdiv, hmod⟩ := succ_div_mod n (timerPeriod_pos timer)
    rw [applyTimes_succ, ih, hdiv, hmod, Timer.tick, if_pos h]
    dsimp only
    by_cases hfires : n % timerPeriod timer + 1 = timerPeriod timer
    · rw [if_pos ((counter_reaches_target (Nat.mod_lt _ (timerPeriod_pos timer))).mpr hfires), if_pos hfires,
        if_pos hfires, ← BitVec.ofNat_add_ofNat, ← BitVec.add_assoc]
      rfl
    · rw [if_neg (mt (counter_reaches_target (Nat.mod_lt _ (timerPeriod_pos timer))).mp hfires), if_neg hfires,
        if_neg hfires, ← BitVec.ofNat_add_ofNat]
      rfl

/-- Settles O52: one tick by its branches, `n` ticks by induction. -/
theorem timerFiresEveryTarget : Obligations.TimerFiresEveryTarget := by
  unfold Obligations.TimerFiresEveryTarget
  refine ⟨fun a t => ⟨timer_tickTimers a t, rfl⟩, fun timer n => ⟨timer_tick_of_enabled,
    fun h h0 => timer_ticks_of_enabled h h0 n, fun h => ?_⟩⟩
  exact applyTimes_keeps Timer.tick (fun after => after = timer)
    (fun after hafter => by rw [hafter, timer_tick_of_disabled h]) n timer rfl

/-! The I/O page (R372). -/

/-- Every address outside the page, and $F8 and $F9 in it, is plain ARAM (R363). -/
theorem apuWrite_aram (a : Apu) (v : Byte) {addr : Word}
    (h : addr.toNat < 0xF0 ∨ addr = 0xF8 ∨ addr = 0xF9 ∨ 0xFF < addr.toNat) :
    a.write addr v = { a with aram := aramPutByte a.aram addr v } := by
  unfold Apu.write
  iterate 12 rw [if_neg (by bv_omega)]

theorem apuRead_aram (a : Apu) {addr : Word}
    (h : addr.toNat < 0xF0 ∨ addr = 0xF8 ∨ addr = 0xF9 ∨ 0xFF < addr.toNat) :
    a.read addr = (aramByte a.aram addr, a) := by
  unfold Apu.read
  iterate 11 rw [if_neg (by bv_omega)]

/-- CONTROL on one timer (R372). -/
theorem timer_writeControl (a : Apu) (v : Byte) (t : Fin 3) : (a.writeControl v).timer t =
    if v.getLsbD t.val = true ∧ (a.timer t).enabled = false then
      { a.timer t with enabled := true, counter := 0, out := 0 }
    else { a.timer t with enabled := v.getLsbD t.val } := by
  have htimer : (a.writeControl v).timer t = (a.timer t).control (v.getLsbD t.val) := Vector.getElem_ofFn _
  rw [htimer, Timer.control]
  cases v.getLsbD t.val <;> cases (a.timer t).enabled <;> rfl

/-- The DSP data register reaches the DSP below address $80 only (R372). -/
theorem apuWrite_dspData (a : Apu) (v : Byte) : a.write 0xF3 v =
    if a.dspAddr.toNat < 128 then { a with dsp := a.dsp.write a.aram (BitVec.ofNat 7 a.dspAddr.toNat) v } else a := by
  rw [BitVec.ofNat_toNat]
  rfl

theorem apuRead_dspData (a : Apu) : a.read 0xF3 = (a.dsp.read (BitVec.ofNat 7 (a.dspAddr.toNat % 128)), a) := by
  have haddr : BitVec.ofNat 7 (a.dspAddr.toNat % 128) = a.dspAddr.setWidth 7 :=
    BitVec.eq_of_toNat_eq (by rw [BitVec.toNat_ofNat, BitVec.toNat_setWidth]; omega)
  rw [haddr]
  rfl

/-- The three registers of each timer (R372). -/
theorem apuWrite_target (a : Apu) (v : Byte) (t : Fin 3) :
    a.write (0xFA + BitVec.ofNat 16 t.val) v = a.setTimer t { a.timer t with target := v } := by
  fin_cases t <;> rfl

theorem apuWrite_timerOut (a : Apu) (v : Byte) (t : Fin 3) : a.write (0xFD + BitVec.ofNat 16 t.val) v = a := by
  fin_cases t <;> rfl

theorem apuRead_target (a : Apu) (t : Fin 3) : a.read (0xFA + BitVec.ofNat 16 t.val) = (0, a) := by
  fin_cases t <;> rfl

theorem apuRead_timerOut (a : Apu) (t : Fin 3) : a.read (0xFD + BitVec.ofNat 16 t.val) =
    (BitVec.ofNat 8 (a.timer t).out.toNat, a.setTimer t { a.timer t with out := 0 }) := by
  rw [BitVec.ofNat_toNat]
  fin_cases t <;> rfl

/-- Settles O53: every address of the page by the branch it selects, the rest as plain ARAM. -/
theorem apuAddressMap : Obligations.ApuAddressMap := by
  unfold Obligations.ApuAddressMap
  intro a v addr t i
  have hdata := apuWrite_dspData a v
  exact ⟨rfl, timer_writeControl a v t, Vector.getElem_ofFn _, rfl, rfl, fun h => hdata.trans (if_pos h),
    fun h => hdata.trans (if_neg (Nat.not_lt.mpr h)), apuWrite_port a i v, apuWrite_target a v t,
    apuWrite_timerOut a v t, fun h => ⟨apuWrite_aram a v h, apuRead_aram a h⟩, rfl, rfl, rfl, apuRead_dspData a,
    apuRead_port a i, apuRead_target a t, apuRead_timerOut a t⟩

/-! Upload (R385, R386). -/

theorem add_ofNat_succ (addr : Word) (k : Nat) :
    addr + BitVec.ofNat 16 (k + 1) = addr + 1 + BitVec.ofNat 16 k := by
  rw [Nat.add_comm, ← BitVec.ofNat_add_ofNat, ← BitVec.add_assoc]
  rfl

/-- Bytes written at successive addresses leave the rest of ARAM. -/
theorem aramByte_aramPutBytes_ne (data : List Byte) (m : Memory) (addr a : Word)
    (h : ∀ k, k < data.length → a ≠ addr + BitVec.ofNat 16 k) :
    aramByte (aramPutBytes m addr data) a = aramByte m a := by
  induction data generalizing m addr with
  | nil => rfl
  | cons v rest ih =>
    have hfirst : a ≠ addr := by simpa using h 0 (Nat.succ_pos _)
    rw [aramPutBytes, ih, aramByte_aramPutByte_ne _ _ hfirst]
    intro k hk
    have hnext := h (k + 1) (Nat.succ_lt_succ hk)
    rwa [add_ofNat_succ] at hnext

/-- Up to 65536 bytes written at successive addresses read back (R386). -/
theorem aramByte_aramPutBytes (data : List Byte) (m : Memory) (addr : Word) (hlen : data.length ≤ 65536) (k : Nat)
    (hk : k < data.length) : aramByte (aramPutBytes m addr data) (addr + BitVec.ofNat 16 k) = data[k] := by
  induction data generalizing m addr k with
  | nil => exact absurd hk (Nat.not_lt_zero k)
  | cons v rest ih =>
    rw [List.length_cons] at hlen hk
    rw [aramPutBytes]
    cases k with
    | zero =>
      rw [aramByte_aramPutBytes_ne _ _ _ _ fun k hk => by bv_omega]
      simp
    | succ k =>
      rw [add_ofNat_succ]
      exact ih _ _ (by omega) k (by omega)

/-- The turn of the loop on a header (R385). -/
theorem uploadBlocks_header (fuel : Nat) (m : Memory) (s0 s1 a0 a1 : Byte) (rest : List Byte) :
    uploadBlocks (fuel + 1) m (s0 :: s1 :: a0 :: a1 :: rest) =
      if (word16 s0 s1).toNat = 0 ∨ rest.length < (word16 s0 s1).toNat then m
      else uploadBlocks fuel (aramPutBytes m (word16 a0 a1) (rest.take (word16 s0 s1).toNat))
        (rest.drop (word16 s0 s1).toNat) := rfl

/-- Fewer than four bytes are no header, and stop the loop (R385). -/
theorem uploadBlocks_of_short (fuel : Nat) (m : Memory) {src : List Byte} (h : src.length < 4) :
    uploadBlocks fuel m src = m := by
  cases fuel with
  | zero => rfl
  | succ fuel =>
    match src with
    | [] | [_] | [_, _] | [_, _, _] => rfl
    | _ :: _ :: _ :: _ :: rest => exact absurd h (by simp)

theorem exists_header {src : List Byte} (h : 4 ≤ src.length) :
    ∃ s0 s1 a0 a1 rest, src = s0 :: s1 :: a0 :: a1 :: rest := by
  match src with
  | s0 :: s1 :: a0 :: a1 :: rest => exact ⟨s0, s1, a0, a1, rest, rfl⟩
  | [] | [_] | [_, _] | [_, _, _] => simp at h

/-- Fuel beyond the length of the source changes nothing: each turn takes a header off it. -/
theorem uploadBlocks_fuel (fuel fuel' : Nat) (m : Memory) (src : List Byte) (h : src.length ≤ fuel)
    (h' : src.length ≤ fuel') : uploadBlocks fuel m src = uploadBlocks fuel' m src := by
  induction fuel generalizing fuel' m src with
  | zero => rw [uploadBlocks_of_short _ _ (by omega), uploadBlocks_of_short _ _ (by omega)]
  | succ fuel ih =>
    by_cases hshort : src.length < 4
    · rw [uploadBlocks_of_short _ _ hshort, uploadBlocks_of_short _ _ hshort]
    · obtain ⟨s0, s1, a0, a1, rest, rfl⟩ := exists_header (Nat.le_of_not_lt hshort)
      simp only [List.length_cons] at h h'
      obtain ⟨fuel', rfl⟩ := Nat.exists_eq_add_of_lt (show 0 < fuel' by omega)
      rw [Nat.zero_add, uploadBlocks_header, uploadBlocks_header]
      split
      · rfl
      · exact ih _ _ _ (by rw [List.length_drop]; omega) (by rw [List.length_drop]; omega)

/-- A malformed header stops the upload (R385). -/
theorem upload_of_overrun (m : Memory) (s0 s1 a0 a1 : Byte) {rest : List Byte}
    (h : (word16 s0 s1).toNat = 0 ∨ rest.length < (word16 s0 s1).toNat) :
    upload m (s0 :: s1 :: a0 :: a1 :: rest) = m :=
  (uploadBlocks_header _ m s0 s1 a0 a1 rest).trans (if_pos h)

/-- A record is written, and the upload goes on with what follows it (R385). -/
theorem upload_record (m : Memory) (addr : Word) (data rest : List Byte) (hpos : 0 < data.length)
    (hlen : data.length < 65536) :
    upload m (uploadRecord addr data ++ rest) = upload (aramPutBytes m addr data) rest := by
  have hsize : (word16 (lowByte (BitVec.ofNat 16 data.length)) (highByte (BitVec.ofNat 16 data.length))).toNat =
      data.length := by
    rw [word16_low_high, BitVec.toNat_ofNat]
    exact Nat.mod_eq_of_lt hlen
  refine (uploadBlocks_header _ m _ _ _ _ (data ++ rest)).trans ?_
  rw [hsize, if_neg (by rw [List.length_append]; omega), List.take_left, List.drop_left, word16_low_high]
  exact uploadBlocks_fuel _ _ _ _ (List.suffix_append _ rest).length_le (Nat.le_refl _)

/-- Settles O55: a record is one turn of the loop, whose bytes read back. -/
theorem uploadReadsBack : Obligations.UploadReadsBack := by
  unfold Obligations.UploadReadsBack
  have hone (m : Memory) (addr : Word) (data : List Byte) (hpos : 0 < data.length) (hlen : data.length < 65536) :
      upload m (uploadRecord addr data) = aramPutBytes m addr data := by
    rw [← List.append_nil (uploadRecord addr data), upload_record m addr data [] hpos hlen]
    rfl
  refine ⟨fun m addr data hpos hlen => ?_, fun m addr data rest hpos hlen => ?_,
    fun m src => uploadBlocks_of_short _ m, fun m s0 s1 a0 a1 rest => upload_of_overrun m s0 s1 a0 a1⟩
  · rw [hone m addr data hpos hlen]
    exact ⟨aramByte_aramPutBytes data m addr hlen.le, aramByte_aramPutBytes_ne data m addr⟩
  · rw [hone m addr data hpos hlen, upload_record m addr data rest hpos hlen]

/-! Reset (R389, R422). -/

theorem apuAfterReset_reset (cfg : Config) (aram : Memory) (ring : Ring) :
    ApuAfterReset cfg (Apu.reset cfg.apuResetPc aram ring) where
  registers := rfl
  inPorts i := Vector.getElem_replicate _
  outPorts i := Vector.getElem_replicate _
  timers t := Vector.getElem_replicate _
  address := rfl
  channels v := ⟨0, Vector.getElem_replicate _⟩
  dspRegs k := by
    refine (Dsp.reg_setReg { Dsp.reset ring with regs := Vector.replicate 128 0 } 0x6C k 0xE0).trans ?_
    congr 1
    exact Vector.getElem_replicate _
  writeCursor := rfl
  boundary := rfl
  stepCount := rfl

/-- Settles O51: a host reset of the coprocessor is `Apu.reset`, on the ARAM that stands. -/
theorem apuResetValues : Obligations.ApuResetValues := by
  unfold Obligations.ApuResetValues
  exact ⟨fun s ring rest hq =>
      ⟨_, step_of_hostAction hq nofun, apuAfterReset_reset s.config s.apu.aram _, rfl, rfl⟩,
    apuAfterReset_reset Config.default [] []⟩

end Sys2Proof.Claims
end

section
/-! PROOFS. The host's reading of the ring (R420, R421). -/

namespace Sys2Proof.Claims

open Sys2Proof.Machine

/-- How far the boundary lies ahead of the read cursor, around the ring's end. -/
theorem readableCount_eq {s : State} (hread : s.readCursor < s.config.ringSize)
    (hboundary : s.frameBoundary < s.config.ringSize) : s.readableCount =
      if s.readCursor ≤ s.frameBoundary then s.frameBoundary - s.readCursor
      else s.frameBoundary + s.config.ringSize - s.readCursor := by
  unfold State.readableCount
  rw [State.frameBoundary] at *
  split
  · rw [Nat.sub_add_comm (by omega), Nat.add_mod_right]
    exact Nat.mod_eq_of_lt (by omega)
  · exact Nat.mod_eq_of_lt (by omega)

/-- Where the entry `k` further than the read cursor stands, when it is no further than the boundary. -/
theorem readIndex_eq {s : State} (hread : s.readCursor < s.config.ringSize)
    (hboundary : s.frameBoundary < s.config.ringSize) {k : Nat} (hk : k ≤ s.readableCount) :
    (s.readCursor + k) % s.config.ringSize = if s.readCursor + k < s.config.ringSize then s.readCursor + k
      else s.readCursor + k - s.config.ringSize := by
  have hcount : s.readableCount < s.config.ringSize := Nat.mod_lt _ (by omega)
  split
  · exact Nat.mod_eq_of_lt ‹_›
  · rw [Nat.mod_eq_sub_mod (by omega)]
    exact Nat.mod_eq_of_lt (by omega)

/-- Nothing is readable when the read cursor stands at the boundary. -/
theorem readableCount_eq_zero {s : State} (h : s.readCursor = s.frameBoundary) : s.readableCount = 0 := by
  unfold State.readableCount
  rw [h, State.frameBoundary, Nat.add_sub_cancel_left, Nat.mod_self]

/-- Past the readable entries the model refuses (log entry 18). -/
theorem readSample_of_le {s : State} {k : Nat} (h : s.readableCount ≤ k) : s.readSample k = none :=
  if_neg (Nat.not_lt.mpr h)

/-- Settles O60: the readable entries by `readableCount_eq`, and each host operation by its effect. -/
theorem readerStopsAtBoundary : Obligations.ReaderStopsAtBoundary := by
  unfold Obligations.ReaderStopsAtBoundary
  refine ⟨fun s rest hq => ⟨_, step_of_hostAction hq nofun, rfl, rfl, rfl, rfl, fun _ => rfl, fun k => ?_, rfl⟩,
    fun s hinv hsize => ?_⟩
  · exact readSample_of_le (by rw [readableCount_eq_zero rfl]; exact Nat.zero_le k)
  · obtain ⟨-, hboundary, hread⟩ := hinv
    have hcount := readableCount_eq (hread hsize) (hboundary hsize)
    have hindex {k : Nat} := readIndex_eq (hread hsize) (hboundary hsize) (k := k)
    have hb : s.frameBoundary < s.config.ringSize := hboundary hsize
    have hr := hread hsize
    refine ⟨?_, fun k hk => ⟨?_, if_pos hk⟩, fun k => readSample_of_le,
      fun rest hq => ⟨_, step_of_hostAction hq nofun, rfl, rfl⟩,
      fun rest hq => ⟨_, step_of_hostAction hq nofun, rfl, readableCount_eq_zero rfl⟩⟩
    · rw [hindex (Nat.le_refl _)]
      split_ifs at * <;> omega
    · rw [hindex hk.le]
      split_ifs at * <;> omega

end Sys2Proof.Claims
end

section
/-! PROOFS. Trap entry and its return, and the unknown opcode (R440, R445, R447, R448). -/

namespace Sys2Proof.Claims

open Sys2Proof.Machine

/-! Trap entry. -/

/-- Settles O9: trap entry takes the trap. -/
theorem trapEntry : Obligations.TrapEntry := trapTaken_trapEnter

/-! `RTI` straight after trap entry. -/

/-- The status pulled back is the one before the trap: in emulation mode the pushed bits 4 and 5 are M and X, which
`SetP` leaves at 1 (R446, R280). -/
theorem status_restored {k : Trap} {s : State} {b : Byte} (h : s.EmulationInv) (hb : StatusPushed k s b) :
    (if s.e then b ||| 0x30 else b) = s.p := by
  unfold StatusPushed at hb
  cases he : s.e with
  | false => simpa [he] using hb
  | true =>
    rw [he, if_pos rfl] at hb
    rw [if_pos rfl]
    refine BitVec.eq_of_getLsbD_eq fun n hn => ?_
    have hm : s.p.getLsbD 5 = true := h.widthM he
    have hx : s.p.getLsbD 4 = true := h.widthX he
    have hmask : ∀ n, n < 8 → n ≠ 5 → n ≠ 4 → (0x30 : Byte).getLsbD n = false := by decide
    rw [BitVec.getLsbD_or, hb n hn]
    by_cases h5 : n = 5
    · rw [if_pos h5, h5, hm, Bool.true_or]
    · by_cases h4 : n = 4
      · rw [h4, hx]
        exact Bool.or_true _
      · rw [if_neg h5, if_neg h4, hmask n hn h5 h4, Bool.or_false]

/-- What the pulls of `RTI` find after trap entry: the status pushed, `PC`, `PB` in native mode, and the stack pointer
back where it was (R445). -/
theorem pulls_after_trapEnter (k : Trap) (s : State) :
    StatusPushed k s (pulledByte (s.trapEnter k) 0) ∧ pulledWord (s.trapEnter k) 1 = s.pc ∧
      (s.e = false → pulledByte (s.trapEnter k) 3 = s.pb) ∧
      stackMoved (s.trapEnter k) (if s.e then 3 else 4) = s.sp := by
  obtain ⟨b, hb, hpushed⟩ := (trapTaken_trapEnter k s).saved
  have hmode : (s.trapEnter k).e = s.e := by rw [trapEnter_frame]
  rw [pulledWord]
  cases he : s.e with
  | false =>
    rw [he, if_neg Bool.false_ne_true] at hpushed
    have hbyte {j n : Nat} := hpushed.pulledByte_eq hmode (j := j) (k := n)
    rw [hbyte (j := 3) rfl, hbyte (j := 2) rfl, hbyte (j := 1) rfl, hbyte (j := 0) rfl]
    exact ⟨hb, word16_low_high s.pc, fun _ => rfl, hpushed.stackMoved_length hmode⟩
  | true =>
    rw [he, if_pos rfl] at hpushed
    have hbyte {j n : Nat} := hpushed.pulledByte_eq hmode (j := j) (k := n)
    rw [hbyte (j := 2) rfl, hbyte (j := 1) rfl, hbyte (j := 0) rfl]
    exact ⟨hb, word16_low_high s.pc, nofun, hpushed.stackMoved_length hmode⟩

/-- A register whose high byte is zero fits a byte. -/
theorem trunc_byte_of_highByte {v : Word} (h : highByte v = 0) : trunc .byte v = v := by
  apply BitVec.eq_of_toNat_eq
  have hhigh := toNat_highByte v
  rw [h] at hhigh
  rw [toNat_trunc]
  show v.toNat % 256 = v.toNat
  change 0 = v.toNat / 256 at hhigh
  omega

/-- `RTI` on the state after trap entry gives back every register (R447, R448). -/
theorem trapReturn_trapEnter (k : Trap) {s : State} (hem : s.EmulationInv) (hindex : s.IndexInv)
    (hbank : s.e = true → s.pb = 0) : (s.trapEnter k).trapReturn = { s with mem := (s.trapEnter k).mem } := by
  obtain ⟨hstatus, hpc, hpb, hsp⟩ := pulls_after_trapEnter k s
  have hmode : (s.trapEnter k).e = s.e := by rw [trapEnter_frame]
  have hp : ((s.trapEnter k).setP (pulledByte (s.trapEnter k) 0)).p = s.p := by
    rw [setP_p, hmode]
    exact status_restored hem hstatus
  have hflag : ((s.trapEnter k).setP (pulledByte (s.trapEnter k) 0)).flag .x = s.flag .x :=
    congrArg (statusFlag · .x) hp
  have hx : ((s.trapEnter k).setP (pulledByte (s.trapEnter k) 0)).x = s.x := by
    rw [setP_x, hflag, trapEnter_frame]
    split
    · exact trunc_byte_of_highByte (hindex.highX (by simp [State.x8, *]))
    · rfl
  have hy : ((s.trapEnter k).setP (pulledByte (s.trapEnter k) 0)).y = s.y := by
    rw [setP_y, hflag, trapEnter_frame]
    split
    · exact trunc_byte_of_highByte (hindex.highY (by simp [State.x8, *]))
    · rfl
  have hpb' : (if s.e then (s.trapEnter k).pb else pulledByte (s.trapEnter k) 3) = s.pb := by
    cases he : s.e with
    | false => exact hpb he
    | true => exact (hbank he).symm
  rw [trapReturn_eq, hmode, hsp, hpc, hpb', setP_frame, hp, hx, hy, trapEnter_frame]

/-- Settles O13: `trapReturn_trapEnter`; trap entry writes only the slots it pushes. -/
theorem returnUndoesTrapEntry : Obligations.ReturnUndoesTrapEntry := by
  unfold Obligations.ReturnUndoesTrapEntry
  intro k s hem hindex hbank
  obtain ⟨b, -, hpushed⟩ := (trapTaken_trapEnter k s).saved
  refine ⟨_, congrArg Host.Outcome.next (trapReturn_trapEnter k hem hindex hbank), rfl, fun a ha => ?_⟩
  refine hpushed.others a fun n hn => ha n ?_
  cases he : s.e <;> simpa [he] using hn

/-! The unknown opcode. -/

/-- Settles O6: the branch of `Step()` that reports, on an engine that executes. -/
theorem unknownOpcodeIsSkipped : Obligations.UnknownOpcodeIsSkipped := by
  unfold Obligations.UnknownOpcodeIsSkipped
  intro s ⟨hturn, hr, hn, hi⟩ hk
  have hreport : runInstruction (called s) =
      .next (((called s).advance 1).reportUnknown ((called s).codeByte 0) (called s).pc) :=
    if_neg (ne_true_of_eq_false hk)
  have hstep : step s = runInstruction (called s) :=
    (step_of_cpuTurn hturn).trans (engineStep_of_running (s := called s) hr hn hi)
  refine ⟨_, hstep.trans hreport, rfl, hr, ?_⟩
  exact congrArg (fun offset => memByte s.mem (addr24 s.pb offset)) (BitVec.add_zero (s.pc + 1))

end Sys2Proof.Claims
end
